-- ==== Sys2Proof/Word.lean ====
section
/-! DEFINITION. The two word types of the block (00_scope.md R5): every bus datum and every 8-bit register is a
`Byte`; every address, port, pair, index register, `SP` and `PC` is a `Word`. -/

namespace Sys2Proof

/-- An 8-bit quantity: a register, a bus datum, an opcode byte (00_scope.md R5). -/
abbrev Byte := BitVec 8

/-- A 16-bit quantity: an address, a port, a pair, `IX`, `IY`, `SP`, `PC` (00_scope.md R5). -/
abbrev Word := BitVec 16

end Sys2Proof
end

