-- ==== Sys2Proof/Syntax.lean ====
section
/-! DEFINITION. The instruction set as syntax: one constructor per row of spec/opcode_table.json (the
rows with operands first, then those without, each group in the table's order), and the operand selectors of
10_state.md R23, R24 and 30_encoding.md R95, R96. -/

namespace Sys2Proof

/-- The 8-bit operand selector `r8[i]` without `i = 6`, the memory form (10_state.md R23). -/
inductive Reg8 where
  | b
  | c
  | d
  | e
  | h
  | l
  | a
  deriving DecidableEq, Repr

/-- The pair selector `rp[i]`, for `dd` and `ss` (10_state.md R24). -/
inductive Pair where
  | bc
  | de
  | hl
  | sp
  deriving DecidableEq, Repr

/-- The pair selector `rp2[i]`, for `qq` (10_state.md R24). -/
inductive PairQ where
  | bc
  | de
  | hl
  | af
  deriving DecidableEq, Repr

/-- The pair selector under a DD or FD prefix, for `pp`: `xy` is the index register itself (49_index.md R461, R471). -/
inductive PairX where
  | bc
  | de
  | xy
  | sp
  deriving DecidableEq, Repr

/-- The index register `XY` a prefix selects (00_scope.md R16). -/
inductive Index where
  | ix
  | iy
  deriving DecidableEq, Repr

/-- The condition codes (30_encoding.md R96). -/
inductive Cond where
  | nz
  | z
  | nc
  | c
  | po
  | pe
  | p
  | m
  deriving DecidableEq, Repr

/-- A 3-bit field of an opcode byte that is used as a number: a bit number, a restart number, or the field that tells
duplicate encodings of one instruction apart (30_encoding.md R94, R95; log 16). -/
abbrev Field3 := BitVec 3

/-- One instruction. Operand names follow 30_encoding.md R93 to R95. -/
inductive Instr where
  /-- `DJNZ e`, format `Me`, R357. -/
  | djnz (e : Byte)
  /-- `JR e`, format `Me`, R354. -/
  | jr (e : Byte)
  /-- `JR cc,e`, format `Me`, R355. -/
  | jrCc (cc : Cond) (e : Byte)
  /-- `LD dd,nn`, format `Mnn`, R190. -/
  | ldDdNn (dd : Pair) (nn : Word)
  /-- `ADD HL,ss`, format `M`, R284. -/
  | addHlSs (ss : Pair)
  /-- `LD (nn),HL`, format `Mnn`, R192. -/
  | ldIndNnHl (nn : Word)
  /-- `LD (nn),A`, format `Mnn`, R160. -/
  | ldIndNnA (nn : Word)
  /-- `LD HL,(nn)`, format `Mnn`, R191. -/
  | ldHlIndNn (nn : Word)
  /-- `LD A,(nn)`, format `Mnn`, R157. -/
  | ldAIndNn (nn : Word)
  /-- `INC ss`, format `M`, R287. -/
  | incSs (ss : Pair)
  /-- `DEC ss`, format `M`, R288. -/
  | decSs (ss : Pair)
  /-- `INC r`, format `M`, R263. -/
  | incR (r : Reg8)
  /-- `DEC r`, format `M`, R265. -/
  | decR (r : Reg8)
  /-- `LD r,n`, format `Mn`, R153. -/
  | ldRN (r : Reg8) (n : Byte)
  /-- `LD (HL),n`, format `Mn`, R154. -/
  | ldIndHlN (n : Byte)
  /-- `LD r,r'`, format `M`, R150. -/
  | ldRR (r : Reg8) (r' : Reg8)
  /-- `LD r,(HL)`, format `M`, R151. -/
  | ldRIndHl (r : Reg8)
  /-- `LD (HL),r`, format `M`, R152. -/
  | ldIndHlR (r : Reg8)
  /-- `ADD A,r`, format `M`, R239. -/
  | addAR (r : Reg8)
  /-- `ADD A,n`, format `Mn`, R241. -/
  | addAN (n : Byte)
  /-- `ADC A,r`, format `M`, R242. -/
  | adcAR (r : Reg8)
  /-- `ADC A,n`, format `Mn`, R244. -/
  | adcAN (n : Byte)
  /-- `SUB r`, format `M`, R245. -/
  | subR (r : Reg8)
  /-- `SUB n`, format `Mn`, R247. -/
  | subN (n : Byte)
  /-- `SBC A,r`, format `M`, R248. -/
  | sbcAR (r : Reg8)
  /-- `SBC A,n`, format `Mn`, R250. -/
  | sbcAN (n : Byte)
  /-- `AND r`, format `M`, R251. -/
  | andR (r : Reg8)
  /-- `AND n`, format `Mn`, R253. -/
  | andN (n : Byte)
  /-- `XOR r`, format `M`, R254. -/
  | xorR (r : Reg8)
  /-- `XOR n`, format `Mn`, R256. -/
  | xorN (n : Byte)
  /-- `OR r`, format `M`, R257. -/
  | orR (r : Reg8)
  /-- `OR n`, format `Mn`, R259. -/
  | orN (n : Byte)
  /-- `CP r`, format `M`, R260. -/
  | cpR (r : Reg8)
  /-- `CP n`, format `Mn`, R262. -/
  | cpN (n : Byte)
  /-- `RET cc`, format `M`, R361. -/
  | retCc (cc : Cond)
  /-- `POP qq`, format `M`, R197. -/
  | popQq (qq : PairQ)
  /-- `JP cc,nn`, format `Mnn`, R353. -/
  | jpCcNn (cc : Cond) (nn : Word)
  /-- `JP nn`, format `Mnn`, R352. -/
  | jpNn (nn : Word)
  /-- `OUT (n),A`, format `Mn`, R391. -/
  | outIndNA (n : Byte)
  /-- `IN A,(n)`, format `Mn`, R390. -/
  | inAIndN (n : Byte)
  /-- `CALL cc,nn`, format `Mnn`, R359. -/
  | callCcNn (cc : Cond) (nn : Word)
  /-- `PUSH qq`, format `M`, R196. -/
  | pushQq (qq : PairQ)
  /-- `CALL nn`, format `Mnn`, R358. -/
  | callNn (nn : Word)
  /-- `RST p`, format `M`, R362. -/
  | rstP (t : Field3)
  /-- `RLC r`, format `CB`, R303. -/
  | rlcR (r : Reg8)
  /-- `RRC r`, format `CB`, R305. -/
  | rrcR (r : Reg8)
  /-- `RL r`, format `CB`, R307. -/
  | rlR (r : Reg8)
  /-- `RR r`, format `CB`, R309. -/
  | rrR (r : Reg8)
  /-- `SLA r`, format `CB`, R311. -/
  | slaR (r : Reg8)
  /-- `SRA r`, format `CB`, R313. -/
  | sraR (r : Reg8)
  /-- `SLL r`, format `CB`, R315. -/
  | sllR (r : Reg8)
  /-- `SRL r`, format `CB`, R317. -/
  | srlR (r : Reg8)
  /-- `BIT b,r`, format `CB`, R324. -/
  | bitBR (b : Field3) (r : Reg8)
  /-- `BIT b,(HL)`, format `CB`, R325. -/
  | bitBIndHl (b : Field3)
  /-- `RES b,r`, format `CB`, R326. -/
  | resBR (b : Field3) (r : Reg8)
  /-- `RES b,(HL)`, format `CB`, R327. -/
  | resBIndHl (b : Field3)
  /-- `SET b,r`, format `CB`, R328. -/
  | setBR (b : Field3) (r : Reg8)
  /-- `SET b,(HL)`, format `CB`, R329. -/
  | setBIndHl (b : Field3)
  /-- `IN r,(C)`, format `ED`, R392. -/
  | inRIndC (r : Reg8)
  /-- `OUT (C),r`, format `ED`, R393. -/
  | outIndCR (r : Reg8)
  /-- `SBC HL,ss`, format `ED`, R286. -/
  | sbcHlSs (ss : Pair)
  /-- `ADC HL,ss`, format `ED`, R285. -/
  | adcHlSs (ss : Pair)
  /-- `LD (nn),dd`, format `EDnn`, R194. -/
  | ldIndNnDd (nn : Word) (dd : Pair)
  /-- `LD dd,(nn)`, format `EDnn`, R193. -/
  | ldDdIndNn (dd : Pair) (nn : Word)
  /-- `NEG`, format `ED`, R269. -/
  | neg (y : Field3)
  /-- `RETN`, format `ED`, R408. -/
  | retn (y : Field3)
  /-- `IM 0`, format `ED`, R404. -/
  | im0 (y : Field3)
  /-- `IM 1`, format `ED`, R405. -/
  | im1 (y : Field3)
  /-- `IM 2`, format `ED`, R406. -/
  | im2 (y : Field3)
  /-- `(unrecognised ED 00..3F: two-byte no-operation)`, format `ED`, R135. -/
  | edNop00 (b1 : Byte)
  /-- `(unrecognised ED 80..9F: two-byte no-operation)`, format `ED`, R135. -/
  | edNop80 (b1 : Byte)
  /-- `(unrecognised ED A4..A7, AC..AF, B4..B7, BC..BF: two-byte no-operation)`, format `ED`, R135. -/
  | edNopA4 (b1 : Byte)
  /-- `(unrecognised ED C0..FF: two-byte no-operation)`, format `ED`, R135. -/
  | edNopC0 (b1 : Byte)
  /-- `ADD IX,pp`, format `X`, R471. -/
  | addIxPp (pp : PairX)
  /-- `LD IX,nn`, format `Xnn`, R463. -/
  | ldIxNn (nn : Word)
  /-- `LD (nn),IX`, format `Xnn`, R464. -/
  | ldIndNnIx (nn : Word)
  /-- `LD IX,(nn)`, format `Xnn`, R465. -/
  | ldIxIndNn (nn : Word)
  /-- `LD IXH,n`, format `Xn`, R499. -/
  | ldIxhN (n : Byte)
  /-- `LD IXL,n`, format `Xn`, R500. -/
  | ldIxlN (n : Byte)
  /-- `INC (IX+d)`, format `Xd`, R483. -/
  | incIndIxd (d : Byte)
  /-- `DEC (IX+d)`, format `Xd`, R484. -/
  | decIndIxd (d : Byte)
  /-- `LD (IX+d),n`, format `Xdn`, R482. -/
  | ldIndIxdN (d : Byte) (n : Byte)
  /-- `LD r,(IX+d)`, format `Xd`, R480. -/
  | ldRIndIxd (r : Reg8) (d : Byte)
  /-- `LD (IX+d),r`, format `Xd`, R481. -/
  | ldIndIxdR (d : Byte) (r : Reg8)
  /-- `LD r,IXH`, format `X`, R501. -/
  | ldRIxh (r : Reg8)
  /-- `LD r,IXL`, format `X`, R502. -/
  | ldRIxl (r : Reg8)
  /-- `LD IXH,r`, format `X`, R503. -/
  | ldIxhR (r : Reg8)
  /-- `LD IXL,r`, format `X`, R504. -/
  | ldIxlR (r : Reg8)
  /-- `ADD A,(IX+d)`, format `Xd`, R485. -/
  | addAIndIxd (d : Byte)
  /-- `ADC A,(IX+d)`, format `Xd`, R486. -/
  | adcAIndIxd (d : Byte)
  /-- `SUB (IX+d)`, format `Xd`, R487. -/
  | subIndIxd (d : Byte)
  /-- `SBC A,(IX+d)`, format `Xd`, R488. -/
  | sbcAIndIxd (d : Byte)
  /-- `AND (IX+d)`, format `Xd`, R489. -/
  | andIndIxd (d : Byte)
  /-- `XOR (IX+d)`, format `Xd`, R490. -/
  | xorIndIxd (d : Byte)
  /-- `OR (IX+d)`, format `Xd`, R491. -/
  | orIndIxd (d : Byte)
  /-- `CP (IX+d)`, format `Xd`, R492. -/
  | cpIndIxd (d : Byte)
  /-- `RLC (IX+d)`, format `XCB`, R521. -/
  | rlcIndIxd (d : Byte)
  /-- `RLC (IX+d),r`, format `XCB`, R522. -/
  | rlcIndIxdR (d : Byte) (r : Reg8)
  /-- `RRC (IX+d)`, format `XCB`, R521. -/
  | rrcIndIxd (d : Byte)
  /-- `RRC (IX+d),r`, format `XCB`, R522. -/
  | rrcIndIxdR (d : Byte) (r : Reg8)
  /-- `RL (IX+d)`, format `XCB`, R521. -/
  | rlIndIxd (d : Byte)
  /-- `RL (IX+d),r`, format `XCB`, R522. -/
  | rlIndIxdR (d : Byte) (r : Reg8)
  /-- `RR (IX+d)`, format `XCB`, R521. -/
  | rrIndIxd (d : Byte)
  /-- `RR (IX+d),r`, format `XCB`, R522. -/
  | rrIndIxdR (d : Byte) (r : Reg8)
  /-- `SLA (IX+d)`, format `XCB`, R521. -/
  | slaIndIxd (d : Byte)
  /-- `SLA (IX+d),r`, format `XCB`, R522. -/
  | slaIndIxdR (d : Byte) (r : Reg8)
  /-- `SRA (IX+d)`, format `XCB`, R521. -/
  | sraIndIxd (d : Byte)
  /-- `SRA (IX+d),r`, format `XCB`, R522. -/
  | sraIndIxdR (d : Byte) (r : Reg8)
  /-- `SLL (IX+d)`, format `XCB`, R521. -/
  | sllIndIxd (d : Byte)
  /-- `SLL (IX+d),r`, format `XCB`, R522. -/
  | sllIndIxdR (d : Byte) (r : Reg8)
  /-- `SRL (IX+d)`, format `XCB`, R521. -/
  | srlIndIxd (d : Byte)
  /-- `SRL (IX+d),r`, format `XCB`, R522. -/
  | srlIndIxdR (d : Byte) (r : Reg8)
  /-- `BIT b,(IX+d)`, format `XCB`, R523. -/
  | bitBIndIxd (b : Field3) (d : Byte) (z : Field3)
  /-- `RES b,(IX+d)`, format `XCB`, R524. -/
  | resBIndIxd (b : Field3) (d : Byte)
  /-- `SET b,(IX+d)`, format `XCB`, R525. -/
  | setBIndIxd (b : Field3) (d : Byte)
  /-- `RES b,(IX+d),r`, format `XCB`, R526. -/
  | resBIndIxdR (b : Field3) (d : Byte) (r : Reg8)
  /-- `SET b,(IX+d),r`, format `XCB`, R526. -/
  | setBIndIxdR (b : Field3) (d : Byte) (r : Reg8)
  /-- `ADD IY,pp`, format `X`, R471. -/
  | addIyPp (pp : PairX)
  /-- `LD IY,nn`, format `Xnn`, R463. -/
  | ldIyNn (nn : Word)
  /-- `LD (nn),IY`, format `Xnn`, R464. -/
  | ldIndNnIy (nn : Word)
  /-- `LD IY,(nn)`, format `Xnn`, R465. -/
  | ldIyIndNn (nn : Word)
  /-- `LD IYH,n`, format `Xn`, R499. -/
  | ldIyhN (n : Byte)
  /-- `LD IYL,n`, format `Xn`, R500. -/
  | ldIylN (n : Byte)
  /-- `INC (IY+d)`, format `Xd`, R483. -/
  | incIndIyd (d : Byte)
  /-- `DEC (IY+d)`, format `Xd`, R484. -/
  | decIndIyd (d : Byte)
  /-- `LD (IY+d),n`, format `Xdn`, R482. -/
  | ldIndIydN (d : Byte) (n : Byte)
  /-- `LD r,(IY+d)`, format `Xd`, R480. -/
  | ldRIndIyd (r : Reg8) (d : Byte)
  /-- `LD (IY+d),r`, format `Xd`, R481. -/
  | ldIndIydR (d : Byte) (r : Reg8)
  /-- `LD r,IYH`, format `X`, R501. -/
  | ldRIyh (r : Reg8)
  /-- `LD r,IYL`, format `X`, R502. -/
  | ldRIyl (r : Reg8)
  /-- `LD IYH,r`, format `X`, R503. -/
  | ldIyhR (r : Reg8)
  /-- `LD IYL,r`, format `X`, R504. -/
  | ldIylR (r : Reg8)
  /-- `ADD A,(IY+d)`, format `Xd`, R485. -/
  | addAIndIyd (d : Byte)
  /-- `ADC A,(IY+d)`, format `Xd`, R486. -/
  | adcAIndIyd (d : Byte)
  /-- `SUB (IY+d)`, format `Xd`, R487. -/
  | subIndIyd (d : Byte)
  /-- `SBC A,(IY+d)`, format `Xd`, R488. -/
  | sbcAIndIyd (d : Byte)
  /-- `AND (IY+d)`, format `Xd`, R489. -/
  | andIndIyd (d : Byte)
  /-- `XOR (IY+d)`, format `Xd`, R490. -/
  | xorIndIyd (d : Byte)
  /-- `OR (IY+d)`, format `Xd`, R491. -/
  | orIndIyd (d : Byte)
  /-- `CP (IY+d)`, format `Xd`, R492. -/
  | cpIndIyd (d : Byte)
  /-- `RLC (IY+d)`, format `XCB`, R521. -/
  | rlcIndIyd (d : Byte)
  /-- `RLC (IY+d),r`, format `XCB`, R522. -/
  | rlcIndIydR (d : Byte) (r : Reg8)
  /-- `RRC (IY+d)`, format `XCB`, R521. -/
  | rrcIndIyd (d : Byte)
  /-- `RRC (IY+d),r`, format `XCB`, R522. -/
  | rrcIndIydR (d : Byte) (r : Reg8)
  /-- `RL (IY+d)`, format `XCB`, R521. -/
  | rlIndIyd (d : Byte)
  /-- `RL (IY+d),r`, format `XCB`, R522. -/
  | rlIndIydR (d : Byte) (r : Reg8)
  /-- `RR (IY+d)`, format `XCB`, R521. -/
  | rrIndIyd (d : Byte)
  /-- `RR (IY+d),r`, format `XCB`, R522. -/
  | rrIndIydR (d : Byte) (r : Reg8)
  /-- `SLA (IY+d)`, format `XCB`, R521. -/
  | slaIndIyd (d : Byte)
  /-- `SLA (IY+d),r`, format `XCB`, R522. -/
  | slaIndIydR (d : Byte) (r : Reg8)
  /-- `SRA (IY+d)`, format `XCB`, R521. -/
  | sraIndIyd (d : Byte)
  /-- `SRA (IY+d),r`, format `XCB`, R522. -/
  | sraIndIydR (d : Byte) (r : Reg8)
  /-- `SLL (IY+d)`, format `XCB`, R521. -/
  | sllIndIyd (d : Byte)
  /-- `SLL (IY+d),r`, format `XCB`, R522. -/
  | sllIndIydR (d : Byte) (r : Reg8)
  /-- `SRL (IY+d)`, format `XCB`, R521. -/
  | srlIndIyd (d : Byte)
  /-- `SRL (IY+d),r`, format `XCB`, R522. -/
  | srlIndIydR (d : Byte) (r : Reg8)
  /-- `BIT b,(IY+d)`, format `XCB`, R523. -/
  | bitBIndIyd (b : Field3) (d : Byte) (z : Field3)
  /-- `RES b,(IY+d)`, format `XCB`, R524. -/
  | resBIndIyd (b : Field3) (d : Byte)
  /-- `SET b,(IY+d)`, format `XCB`, R525. -/
  | setBIndIyd (b : Field3) (d : Byte)
  /-- `RES b,(IY+d),r`, format `XCB`, R526. -/
  | resBIndIydR (b : Field3) (d : Byte) (r : Reg8)
  /-- `SET b,(IY+d),r`, format `XCB`, R526. -/
  | setBIndIydR (b : Field3) (d : Byte) (r : Reg8)
  /-- `NOP`, format `M`, R396. -/
  | nop
  /-- `EX AF,AF'`, format `M`, R214. -/
  | exAfAf
  /-- `LD (BC),A`, format `M`, R158. -/
  | ldIndBcA
  /-- `LD (DE),A`, format `M`, R159. -/
  | ldIndDeA
  /-- `LD A,(BC)`, format `M`, R155. -/
  | ldAIndBc
  /-- `LD A,(DE)`, format `M`, R156. -/
  | ldAIndDe
  /-- `INC (HL)`, format `M`, R264. -/
  | incIndHl
  /-- `DEC (HL)`, format `M`, R266. -/
  | decIndHl
  /-- `RLCA`, format `M`, R320. -/
  | rlca
  /-- `RRCA`, format `M`, R321. -/
  | rrca
  /-- `RLA`, format `M`, R322. -/
  | rla
  /-- `RRA`, format `M`, R323. -/
  | rra
  /-- `DAA`, format `M`, R267. -/
  | daa
  /-- `CPL`, format `M`, R268. -/
  | cpl
  /-- `SCF`, format `M`, R270. -/
  | scf
  /-- `CCF`, format `M`, R271. -/
  | ccf
  /-- `HALT`, format `M`, R397. -/
  | halt
  /-- `ADD A,(HL)`, format `M`, R240. -/
  | addAIndHl
  /-- `ADC A,(HL)`, format `M`, R243. -/
  | adcAIndHl
  /-- `SUB (HL)`, format `M`, R246. -/
  | subIndHl
  /-- `SBC A,(HL)`, format `M`, R249. -/
  | sbcAIndHl
  /-- `AND (HL)`, format `M`, R252. -/
  | andIndHl
  /-- `XOR (HL)`, format `M`, R255. -/
  | xorIndHl
  /-- `OR (HL)`, format `M`, R258. -/
  | orIndHl
  /-- `CP (HL)`, format `M`, R261. -/
  | cpIndHl
  /-- `RET`, format `M`, R360. -/
  | ret
  /-- `EXX`, format `M`, R215. -/
  | exx
  /-- `JP (HL)`, format `M`, R356. -/
  | jpIndHl
  /-- `LD SP,HL`, format `M`, R195. -/
  | ldSpHl
  /-- `EX (SP),HL`, format `M`, R211. -/
  | exIndSpHl
  /-- `EX DE,HL`, format `M`, R210. -/
  | exDeHl
  /-- `DI`, format `M`, R402. -/
  | di
  /-- `EI`, format `M`, R403. -/
  | ei
  /-- `RLC (HL)`, format `CB`, R304. -/
  | rlcIndHl
  /-- `RRC (HL)`, format `CB`, R306. -/
  | rrcIndHl
  /-- `RL (HL)`, format `CB`, R308. -/
  | rlIndHl
  /-- `RR (HL)`, format `CB`, R310. -/
  | rrIndHl
  /-- `SLA (HL)`, format `CB`, R312. -/
  | slaIndHl
  /-- `SRA (HL)`, format `CB`, R314. -/
  | sraIndHl
  /-- `SLL (HL)`, format `CB`, R316. -/
  | sllIndHl
  /-- `SRL (HL)`, format `CB`, R318. -/
  | srlIndHl
  /-- `IN (C)`, format `ED`, R394. -/
  | inIndC
  /-- `OUT (C),0`, format `ED`, R395. -/
  | outIndC0
  /-- `RETI`, format `ED`, R407. -/
  | reti
  /-- `LD I,A`, format `ED`, R398. -/
  | ldIA
  /-- `LD R,A`, format `ED`, R399. -/
  | ldRefreshA
  /-- `LD A,I`, format `ED`, R400. -/
  | ldAI
  /-- `LD A,R`, format `ED`, R401. -/
  | ldARefresh
  /-- `RRD`, format `ED`, R331. -/
  | rrd
  /-- `RLD`, format `ED`, R330. -/
  | rld
  /-- `LDI`, format `ED`, R431. -/
  | ldi
  /-- `LDD`, format `ED`, R432. -/
  | ldd
  /-- `LDIR`, format `ED`, R433. -/
  | ldir
  /-- `LDDR`, format `ED`, R434. -/
  | lddr
  /-- `CPI`, format `ED`, R435. -/
  | cpi
  /-- `CPD`, format `ED`, R436. -/
  | cpd
  /-- `CPIR`, format `ED`, R437. -/
  | cpir
  /-- `CPDR`, format `ED`, R438. -/
  | cpdr
  /-- `INI`, format `ED`, R439. -/
  | ini
  /-- `IND`, format `ED`, R440. -/
  | ind
  /-- `INIR`, format `ED`, R441. -/
  | inir
  /-- `INDR`, format `ED`, R442. -/
  | indr
  /-- `OUTI`, format `ED`, R443. -/
  | outi
  /-- `OUTD`, format `ED`, R444. -/
  | outd
  /-- `OTIR`, format `ED`, R445. -/
  | otir
  /-- `OTDR`, format `ED`, R446. -/
  | otdr
  /-- `(unrecognised ED 77: two-byte no-operation)`, format `ED`, R135. -/
  | edNop77
  /-- `(unrecognised ED 7F: two-byte no-operation)`, format `ED`, R135. -/
  | edNop7F
  /-- `INC IX`, format `X`, R472. -/
  | incIx
  /-- `DEC IX`, format `X`, R473. -/
  | decIx
  /-- `INC IXH`, format `X`, R495. -/
  | incIxh
  /-- `INC IXL`, format `X`, R496. -/
  | incIxl
  /-- `DEC IXH`, format `X`, R497. -/
  | decIxh
  /-- `DEC IXL`, format `X`, R498. -/
  | decIxl
  /-- `LD IXH,IXH`, format `X`, R505. -/
  | ldIxhIxh
  /-- `LD IXH,IXL`, format `X`, R505. -/
  | ldIxhIxl
  /-- `LD IXL,IXH`, format `X`, R505. -/
  | ldIxlIxh
  /-- `LD IXL,IXL`, format `X`, R505. -/
  | ldIxlIxl
  /-- `ADD A,IXH`, format `X`, R506. -/
  | addAIxh
  /-- `ADD A,IXL`, format `X`, R506. -/
  | addAIxl
  /-- `ADC A,IXH`, format `X`, R507. -/
  | adcAIxh
  /-- `ADC A,IXL`, format `X`, R507. -/
  | adcAIxl
  /-- `SUB IXH`, format `X`, R508. -/
  | subIxh
  /-- `SUB IXL`, format `X`, R508. -/
  | subIxl
  /-- `SBC A,IXH`, format `X`, R509. -/
  | sbcAIxh
  /-- `SBC A,IXL`, format `X`, R509. -/
  | sbcAIxl
  /-- `AND IXH`, format `X`, R510. -/
  | andIxh
  /-- `AND IXL`, format `X`, R510. -/
  | andIxl
  /-- `XOR IXH`, format `X`, R511. -/
  | xorIxh
  /-- `XOR IXL`, format `X`, R511. -/
  | xorIxl
  /-- `OR IXH`, format `X`, R512. -/
  | orIxh
  /-- `OR IXL`, format `X`, R512. -/
  | orIxl
  /-- `CP IXH`, format `X`, R513. -/
  | cpIxh
  /-- `CP IXL`, format `X`, R513. -/
  | cpIxl
  /-- `POP IX`, format `X`, R468. -/
  | popIx
  /-- `EX (SP),IX`, format `X`, R469. -/
  | exIndSpIx
  /-- `PUSH IX`, format `X`, R467. -/
  | pushIx
  /-- `JP (IX)`, format `X`, R470. -/
  | jpIndIx
  /-- `LD SP,IX`, format `X`, R466. -/
  | ldSpIx
  /-- `(lone DD prefix: one-byte no-operation)`, format `P1`, R136. -/
  | loneDd
  /-- `INC IY`, format `X`, R472. -/
  | incIy
  /-- `DEC IY`, format `X`, R473. -/
  | decIy
  /-- `INC IYH`, format `X`, R495. -/
  | incIyh
  /-- `INC IYL`, format `X`, R496. -/
  | incIyl
  /-- `DEC IYH`, format `X`, R497. -/
  | decIyh
  /-- `DEC IYL`, format `X`, R498. -/
  | decIyl
  /-- `LD IYH,IYH`, format `X`, R505. -/
  | ldIyhIyh
  /-- `LD IYH,IYL`, format `X`, R505. -/
  | ldIyhIyl
  /-- `LD IYL,IYH`, format `X`, R505. -/
  | ldIylIyh
  /-- `LD IYL,IYL`, format `X`, R505. -/
  | ldIylIyl
  /-- `ADD A,IYH`, format `X`, R506. -/
  | addAIyh
  /-- `ADD A,IYL`, format `X`, R506. -/
  | addAIyl
  /-- `ADC A,IYH`, format `X`, R507. -/
  | adcAIyh
  /-- `ADC A,IYL`, format `X`, R507. -/
  | adcAIyl
  /-- `SUB IYH`, format `X`, R508. -/
  | subIyh
  /-- `SUB IYL`, format `X`, R508. -/
  | subIyl
  /-- `SBC A,IYH`, format `X`, R509. -/
  | sbcAIyh
  /-- `SBC A,IYL`, format `X`, R509. -/
  | sbcAIyl
  /-- `AND IYH`, format `X`, R510. -/
  | andIyh
  /-- `AND IYL`, format `X`, R510. -/
  | andIyl
  /-- `XOR IYH`, format `X`, R511. -/
  | xorIyh
  /-- `XOR IYL`, format `X`, R511. -/
  | xorIyl
  /-- `OR IYH`, format `X`, R512. -/
  | orIyh
  /-- `OR IYL`, format `X`, R512. -/
  | orIyl
  /-- `CP IYH`, format `X`, R513. -/
  | cpIyh
  /-- `CP IYL`, format `X`, R513. -/
  | cpIyl
  /-- `POP IY`, format `X`, R468. -/
  | popIy
  /-- `EX (SP),IY`, format `X`, R469. -/
  | exIndSpIy
  /-- `PUSH IY`, format `X`, R467. -/
  | pushIy
  /-- `JP (IY)`, format `X`, R470. -/
  | jpIndIy
  /-- `LD SP,IY`, format `X`, R466. -/
  | ldSpIy
  /-- `(lone FD prefix: one-byte no-operation)`, format `P1`, R136. -/
  | loneFd
  deriving DecidableEq, Repr

end Sys2Proof
end

