-- ==== Sys2Proof/WellFormed.lean ====
section
/-! DEFINITION. Which terms of `Instr` are instructions: the field values a row of the opcode table shuts out because they
belong to another row (its `not` lists and its mask; 30_encoding.md R107). -/

namespace Sys2Proof

/-- `JR cc,e` can name only `cc` in 0..3 (30_encoding.md R96). -/
def jrCondOk : Cond → Bool
  | .nz | .z | .nc | .c => true
  | .po | .pe | .p | .m => false

/-- The registers beside a half of an index register: selector values 4 and 5 name the halves there, so `H` and `L`
cannot be named (49_index.md R461, R501 to R504). -/
def notHL : Reg8 → Bool
  | .h | .l => false
  | .b | .c | .d | .e | .a => true

/-- The checks, per constructor; a constructor that is not listed admits every operand. -/
def Instr.wellFormed : Instr → Bool
  | .jrCc cc _ => jrCondOk cc
  | .retn y => y != 1
  | .im0 y => y == 0 || y == 1 || y == 4 || y == 5
  | .im1 y => y == 2 || y == 6
  | .im2 y => y == 3 || y == 7
  | .edNop00 b1 => b1.toNat / 64 == 0
  | .edNop80 b1 => b1.toNat / 32 == 4
  | .edNopA4 b1 => b1.toNat / 32 == 5 && b1.toNat % 8 ≥ 4
  | .edNopC0 b1 => b1.toNat / 64 == 3
  | .ldRIxh r => notHL r
  | .ldRIxl r => notHL r
  | .ldIxhR r => notHL r
  | .ldIxlR r => notHL r
  | .ldRIyh r => notHL r
  | .ldRIyl r => notHL r
  | .ldIyhR r => notHL r
  | .ldIylR r => notHL r
  | _ => true

/-- The term is an instruction of the block. -/
abbrev WellFormed (i : Instr) : Prop := i.wellFormed = true

end Sys2Proof
end

