-- ==== Sys2Proof/Decode.lean ====
section
/-! DEFINITION. The decoder, total on any bytes, and after it the encoder, each written from 30_encoding.md; with them the
byte-order, bit-field and sign-extension helpers they and the machine use. -/

namespace Sys2Proof

/-! ### Byte order and sign extension -/

/-- `hi:lo`, the byte at the lower address being `lo` (20_memory.md R67; D4). -/
def mkWord (hi lo : Byte) : Word := hi ++ lo

/-- `v[7:0]` (00_scope.md R7). -/
def wordLo (v : Word) : Byte := v.extractLsb' 0 8

/-- `v[15:8]` (00_scope.md R7). -/
def wordHi (v : Word) : Byte := v.extractLsb' 8 8

/-- `sext_16(d)`: `d` if `d < 0x80`, else `d - 0x100`, mod 2^16 (00_scope.md R8). -/
def sext16 (d : Byte) : Word :=
  if d.toNat < 0x80 then BitVec.ofNat 16 d.toNat else BitVec.ofInt 16 ((d.toNat : Int) - 0x100)

/-! ### Fields of an opcode byte (30_encoding.md R94) -/

/-- `x = op[7:6]`. -/
def fieldX (op : Byte) : Nat := op.toNat / 64

/-- `y = op[5:3]`. -/
def fieldY (op : Byte) : Nat := op.toNat / 8 % 8

/-- `z = op[2:0]`. -/
def fieldZ (op : Byte) : Nat := op.toNat % 8

/-- `p = op[5:4]`. -/
def fieldP (op : Byte) : Nat := op.toNat / 16 % 4

/-- `q = op[3]`. -/
def fieldQ (op : Byte) : Nat := op.toNat / 8 % 2

/-- The field `y` as the number it is used as (a bit number, a restart number). -/
def numY (op : Byte) : Field3 := BitVec.ofNat 3 (fieldY op)

/-- The field `z` as a number. -/
def numZ (op : Byte) : Field3 := BitVec.ofNat 3 (fieldZ op)

/-- `r8[i]`, `0..7 → B,C,D,E,H,L,(HL),A`; `none` for the memory form (10_state.md R23). -/
def regSel : Nat → Option Reg8
  | 0 => some .b
  | 1 => some .c
  | 2 => some .d
  | 3 => some .e
  | 4 => some .h
  | 5 => some .l
  | 6 => none
  | _ => some .a

/-- `rp[i]`, `0..3 → BC,DE,HL,SP` (10_state.md R24). -/
def pairSel : Nat → Pair
  | 0 => .bc
  | 1 => .de
  | 2 => .hl
  | _ => .sp

/-- `rp2[i]`, `0..3 → BC,DE,HL,AF` (10_state.md R24). -/
def pairQSel : Nat → PairQ
  | 0 => .bc
  | 1 => .de
  | 2 => .hl
  | _ => .af

/-- `pp`, `0..3 → BC,DE,XY,SP` (49_index.md R471). -/
def pairXSel : Nat → PairX
  | 0 => .bc
  | 1 => .de
  | 2 => .xy
  | _ => .sp

/-- `cc`, `0..7 → NZ,Z,NC,C,PO,PE,P,M` (30_encoding.md R96). -/
def condSel : Nat → Cond
  | 0 => .nz
  | 1 => .z
  | 2 => .nc
  | 3 => .c
  | 4 => .po
  | 5 => .pe
  | 6 => .p
  | _ => .m

/-! ### The CB plane (30_encoding.md R101) -/

/-- `x = 0`: shift or rotate kind `y` on `r[z]`. -/
def decodeCbShift (op : Byte) : Instr :=
  match regSel (fieldZ op) with
  | some r =>
    match fieldY op with
    | 0 => .rlcR r
    | 1 => .rrcR r
    | 2 => .rlR r
    | 3 => .rrR r
    | 4 => .slaR r
    | 5 => .sraR r
    | 6 => .sllR r
    | _ => .srlR r
  | none =>
    match fieldY op with
    | 0 => .rlcIndHl
    | 1 => .rrcIndHl
    | 2 => .rlIndHl
    | 3 => .rrIndHl
    | 4 => .slaIndHl
    | 5 => .sraIndHl
    | 6 => .sllIndHl
    | _ => .srlIndHl

/-- The CB plane's second byte. -/
def decodeCb (op : Byte) : Instr :=
  match fieldX op with
  | 0 => decodeCbShift op
  | 1 =>
    match regSel (fieldZ op) with
    | some r => .bitBR (numY op) r
    | none => .bitBIndHl (numY op)
  | 2 =>
    match regSel (fieldZ op) with
    | some r => .resBR (numY op) r
    | none => .resBIndHl (numY op)
  | _ =>
    match regSel (fieldZ op) with
    | some r => .setBR (numY op) r
    | none => .setBIndHl (numY op)

/-! ### The ED plane (30_encoding.md R102) -/

/-- `x = 1`, `z = 7` of the ED plane. -/
def decodeEdMisc : Nat → Instr
  | 0 => .ldIA
  | 1 => .ldRefreshA
  | 2 => .ldAI
  | 3 => .ldARefresh
  | 4 => .rrd
  | 5 => .rld
  | 6 => .edNop77
  | _ => .edNop7F

/-- `x = 1` of the ED plane: second byte `op`, operand bytes `b2`, `b3`. -/
def decodeEdMain (op b2 b3 : Byte) : Instr :=
  match fieldZ op with
  | 0 =>
    match regSel (fieldY op) with
    | some r => .inRIndC r
    | none => .inIndC
  | 1 =>
    match regSel (fieldY op) with
    | some r => .outIndCR r
    | none => .outIndC0
  | 2 =>
    match fieldQ op with
    | 0 => .sbcHlSs (pairSel (fieldP op))
    | _ => .adcHlSs (pairSel (fieldP op))
  | 3 =>
    match fieldQ op with
    | 0 => .ldIndNnDd (mkWord b3 b2) (pairSel (fieldP op))
    | _ => .ldDdIndNn (pairSel (fieldP op)) (mkWord b3 b2)
  | 4 => .neg (numY op)
  | 5 =>
    match fieldY op with
    | 1 => .reti
    | _ => .retn (numY op)
  | 6 =>
    match fieldY op with
    | 2 | 6 => .im1 (numY op)
    | 3 | 7 => .im2 (numY op)
    | _ => .im0 (numY op)
  | _ => decodeEdMisc (fieldY op)

/-- `x = 2` of the ED plane: the sixteen block instructions, the rest unrecognised. -/
def decodeEdBlock (op : Byte) : Instr :=
  match op.toNat with
  | 0xA0 => .ldi
  | 0xA1 => .cpi
  | 0xA2 => .ini
  | 0xA3 => .outi
  | 0xA8 => .ldd
  | 0xA9 => .cpd
  | 0xAA => .ind
  | 0xAB => .outd
  | 0xB0 => .ldir
  | 0xB1 => .cpir
  | 0xB2 => .inir
  | 0xB3 => .otir
  | 0xB8 => .lddr
  | 0xB9 => .cpdr
  | 0xBA => .indr
  | 0xBB => .otdr
  | _ => if op.toNat < 0xA0 then .edNop80 op else .edNopA4 op

/-- The ED plane: second byte `op`, operand bytes `b2`, `b3`. -/
def decodeEd (op b2 b3 : Byte) : Instr :=
  match fieldX op with
  | 0 => .edNop00 op
  | 1 => decodeEdMain op b2 b3
  | 2 => decodeEdBlock op
  | _ => .edNopC0 op

/-- The ED second bytes the plane recognises (30_encoding.md R102). -/
def edRecognised (op : Byte) : Bool :=
  (fieldX op == 1 && op != 0x77 && op != 0x7F) || (fieldX op == 2 && decide (fieldY op ≥ 4) && decide (fieldZ op ≤ 3))

/-! ### The DD/FD plane and the composite plane (30_encoding.md R103, R104) -/

/-- The row of the prefix: `i` after `DD`, `j` after `FD`. -/
def pick (x : Index) (i j : Instr) : Instr :=
  match x with
  | .ix => i
  | .iy => j

/-- `x = 0` of the DD/FD plane. -/
def decodeXyLow (x : Index) (op b2 b3 : Byte) : Option Instr :=
  match op.toNat with
  | 0x09 | 0x19 | 0x29 | 0x39 => some (pick x (.addIxPp (pairXSel (fieldP op))) (.addIyPp (pairXSel (fieldP op))))
  | 0x21 => some (pick x (.ldIxNn (mkWord b3 b2)) (.ldIyNn (mkWord b3 b2)))
  | 0x22 => some (pick x (.ldIndNnIx (mkWord b3 b2)) (.ldIndNnIy (mkWord b3 b2)))
  | 0x2A => some (pick x (.ldIxIndNn (mkWord b3 b2)) (.ldIyIndNn (mkWord b3 b2)))
  | 0x23 => some (pick x .incIx .incIy)
  | 0x2B => some (pick x .decIx .decIy)
  | 0x24 => some (pick x .incIxh .incIyh)
  | 0x2C => some (pick x .incIxl .incIyl)
  | 0x25 => some (pick x .decIxh .decIyh)
  | 0x2D => some (pick x .decIxl .decIyl)
  | 0x26 => some (pick x (.ldIxhN b2) (.ldIyhN b2))
  | 0x2E => some (pick x (.ldIxlN b2) (.ldIylN b2))
  | 0x34 => some (pick x (.incIndIxd b2) (.incIndIyd b2))
  | 0x35 => some (pick x (.decIndIxd b2) (.decIndIyd b2))
  | 0x36 => some (pick x (.ldIndIxdN b2 b3) (.ldIndIydN b2 b3))
  | _ => none

/-- `x = 1` of the DD/FD plane: loads between registers, halves and indexed memory. -/
def decodeXyLoad (x : Index) (op b2 : Byte) : Option Instr :=
  match fieldY op, fieldZ op with
  | 4, 4 => some (pick x .ldIxhIxh .ldIyhIyh)
  | 4, 5 => some (pick x .ldIxhIxl .ldIyhIyl)
  | 5, 4 => some (pick x .ldIxlIxh .ldIylIyh)
  | 5, 5 => some (pick x .ldIxlIxl .ldIylIyl)
  | 6, z => (regSel z).map fun r => pick x (.ldIndIxdR b2 r) (.ldIndIydR b2 r)
  | y, 6 => (regSel y).map fun r => pick x (.ldRIndIxd r b2) (.ldRIndIyd r b2)
  | 4, z => (regSel z).map fun r => pick x (.ldIxhR r) (.ldIyhR r)
  | 5, z => (regSel z).map fun r => pick x (.ldIxlR r) (.ldIylR r)
  | y, 4 => (regSel y).map fun r => pick x (.ldRIxh r) (.ldRIyh r)
  | y, 5 => (regSel y).map fun r => pick x (.ldRIxl r) (.ldRIyl r)
  | _, _ => none

/-- `x = 2` of the DD/FD plane: the accumulator operations on the halves and on indexed memory. -/
def decodeXyAlu (x : Index) (op b2 : Byte) : Option Instr :=
  match fieldY op, fieldZ op with
  | 0, 4 => some (pick x .addAIxh .addAIyh)
  | 0, 5 => some (pick x .addAIxl .addAIyl)
  | 0, 6 => some (pick x (.addAIndIxd b2) (.addAIndIyd b2))
  | 1, 4 => some (pick x .adcAIxh .adcAIyh)
  | 1, 5 => some (pick x .adcAIxl .adcAIyl)
  | 1, 6 => some (pick x (.adcAIndIxd b2) (.adcAIndIyd b2))
  | 2, 4 => some (pick x .subIxh .subIyh)
  | 2, 5 => some (pick x .subIxl .subIyl)
  | 2, 6 => some (pick x (.subIndIxd b2) (.subIndIyd b2))
  | 3, 4 => some (pick x .sbcAIxh .sbcAIyh)
  | 3, 5 => some (pick x .sbcAIxl .sbcAIyl)
  | 3, 6 => some (pick x (.sbcAIndIxd b2) (.sbcAIndIyd b2))
  | 4, 4 => some (pick x .andIxh .andIyh)
  | 4, 5 => some (pick x .andIxl .andIyl)
  | 4, 6 => some (pick x (.andIndIxd b2) (.andIndIyd b2))
  | 5, 4 => some (pick x .xorIxh .xorIyh)
  | 5, 5 => some (pick x .xorIxl .xorIyl)
  | 5, 6 => some (pick x (.xorIndIxd b2) (.xorIndIyd b2))
  | 6, 4 => some (pick x .orIxh .orIyh)
  | 6, 5 => some (pick x .orIxl .orIyl)
  | 6, 6 => some (pick x (.orIndIxd b2) (.orIndIyd b2))
  | 7, 4 => some (pick x .cpIxh .cpIyh)
  | 7, 5 => some (pick x .cpIxl .cpIyl)
  | 7, 6 => some (pick x (.cpIndIxd b2) (.cpIndIyd b2))
  | _, _ => none

/-- `x = 0` of the composite plane: shift or rotate kind `y` on `(XY+d)`, with the copy to `r[z]` if `z ≠ 6`. -/
def decodeXyCbShift (x : Index) (d op : Byte) : Instr :=
  match regSel (fieldZ op) with
  | none =>
    match fieldY op with
    | 0 => pick x (.rlcIndIxd d) (.rlcIndIyd d)
    | 1 => pick x (.rrcIndIxd d) (.rrcIndIyd d)
    | 2 => pick x (.rlIndIxd d) (.rlIndIyd d)
    | 3 => pick x (.rrIndIxd d) (.rrIndIyd d)
    | 4 => pick x (.slaIndIxd d) (.slaIndIyd d)
    | 5 => pick x (.sraIndIxd d) (.sraIndIyd d)
    | 6 => pick x (.sllIndIxd d) (.sllIndIyd d)
    | _ => pick x (.srlIndIxd d) (.srlIndIyd d)
  | some r =>
    match fieldY op with
    | 0 => pick x (.rlcIndIxdR d r) (.rlcIndIydR d r)
    | 1 => pick x (.rrcIndIxdR d r) (.rrcIndIydR d r)
    | 2 => pick x (.rlIndIxdR d r) (.rlIndIydR d r)
    | 3 => pick x (.rrIndIxdR d r) (.rrIndIydR d r)
    | 4 => pick x (.slaIndIxdR d r) (.slaIndIydR d r)
    | 5 => pick x (.sraIndIxdR d r) (.sraIndIydR d r)
    | 6 => pick x (.sllIndIxdR d r) (.sllIndIydR d r)
    | _ => pick x (.srlIndIxdR d r) (.srlIndIydR d r)

/-- The composite plane: displacement `d`, then `op` (30_encoding.md R104). `BIT` keeps `z` although no copy is made. -/
def decodeXyCb (x : Index) (d op : Byte) : Instr :=
  match fieldX op with
  | 0 => decodeXyCbShift x d op
  | 1 => pick x (.bitBIndIxd (numY op) d (numZ op)) (.bitBIndIyd (numY op) d (numZ op))
  | 2 =>
    match regSel (fieldZ op) with
    | none => pick x (.resBIndIxd (numY op) d) (.resBIndIyd (numY op) d)
    | some r => pick x (.resBIndIxdR (numY op) d r) (.resBIndIydR (numY op) d r)
  | _ =>
    match regSel (fieldZ op) with
    | none => pick x (.setBIndIxd (numY op) d) (.setBIndIyd (numY op) d)
    | some r => pick x (.setBIndIxdR (numY op) d r) (.setBIndIydR (numY op) d r)

/-- `x = 3` of the DD/FD plane; `CB` opens the composite plane. -/
def decodeXyHigh (x : Index) (op b2 b3 : Byte) : Option Instr :=
  match op.toNat with
  | 0xE1 => some (pick x .popIx .popIy)
  | 0xE3 => some (pick x .exIndSpIx .exIndSpIy)
  | 0xE5 => some (pick x .pushIx .pushIy)
  | 0xE9 => some (pick x .jpIndIx .jpIndIy)
  | 0xF9 => some (pick x .ldSpIx .ldSpIy)
  | 0xCB => some (decodeXyCb x b2 b3)
  | _ => none

/-- The DD/FD plane: second byte `op`, operand bytes `b2`, `b3`; `none` for an unrecognised second byte (30_encoding.md R103). -/
def decodeXy (x : Index) (op b2 b3 : Byte) : Option Instr :=
  match fieldX op with
  | 0 => decodeXyLow x op b2 b3
  | 1 => decodeXyLoad x op b2
  | 2 => decodeXyAlu x op b2
  | _ => decodeXyHigh x op b2 b3

/-- The second bytes the DD/FD plane recognises (30_encoding.md R103). -/
def xyRecognised (op : Byte) : Bool := (decodeXy .ix op 0 0).isSome

/-! ### The main plane (30_encoding.md R100) -/

/-- `x = 0`, `z = 2`: the accumulator and `HL` loads through memory. -/
def decodeIndirect (op b1 b2 : Byte) : Instr :=
  match fieldY op with
  | 0 => .ldIndBcA
  | 1 => .ldAIndBc
  | 2 => .ldIndDeA
  | 3 => .ldAIndDe
  | 4 => .ldIndNnHl (mkWord b2 b1)
  | 5 => .ldHlIndNn (mkWord b2 b1)
  | 6 => .ldIndNnA (mkWord b2 b1)
  | _ => .ldAIndNn (mkWord b2 b1)

/-- `x = 0`, `z = 7`: the accumulator and flag operations. -/
def decodeAccumulator : Nat → Instr
  | 0 => .rlca
  | 1 => .rrca
  | 2 => .rla
  | 3 => .rra
  | 4 => .daa
  | 5 => .cpl
  | 6 => .scf
  | _ => .ccf

/-- `x = 0`. -/
def decodeX0 (op b1 b2 : Byte) : Instr :=
  match fieldZ op with
  | 0 =>
    match fieldY op with
    | 0 => .nop
    | 1 => .exAfAf
    | 2 => .djnz b1
    | 3 => .jr b1
    | y => .jrCc (condSel (y - 4)) b1
  | 1 =>
    match fieldQ op with
    | 0 => .ldDdNn (pairSel (fieldP op)) (mkWord b2 b1)
    | _ => .addHlSs (pairSel (fieldP op))
  | 2 => decodeIndirect op b1 b2
  | 3 =>
    match fieldQ op with
    | 0 => .incSs (pairSel (fieldP op))
    | _ => .decSs (pairSel (fieldP op))
  | 4 =>
    match regSel (fieldY op) with
    | some r => .incR r
    | none => .incIndHl
  | 5 =>
    match regSel (fieldY op) with
    | some r => .decR r
    | none => .decIndHl
  | 6 =>
    match regSel (fieldY op) with
    | some r => .ldRN r b1
    | none => .ldIndHlN b1
  | _ => decodeAccumulator (fieldY op)

/-- `x = 1`: `LD r[y],r[z]`, with `HALT` in the place of `LD (HL),(HL)`. -/
def decodeX1 (op : Byte) : Instr :=
  match regSel (fieldY op), regSel (fieldZ op) with
  | none, none => .halt
  | some r, none => .ldRIndHl r
  | none, some r => .ldIndHlR r
  | some r, some r' => .ldRR r r'

/-- `x = 2`: accumulator operation `y` on `r[z]`. -/
def decodeX2 (op : Byte) : Instr :=
  match regSel (fieldZ op) with
  | some r =>
    match fieldY op with
    | 0 => .addAR r
    | 1 => .adcAR r
    | 2 => .subR r
    | 3 => .sbcAR r
    | 4 => .andR r
    | 5 => .xorR r
    | 6 => .orR r
    | _ => .cpR r
  | none =>
    match fieldY op with
    | 0 => .addAIndHl
    | 1 => .adcAIndHl
    | 2 => .subIndHl
    | 3 => .sbcAIndHl
    | 4 => .andIndHl
    | 5 => .xorIndHl
    | 6 => .orIndHl
    | _ => .cpIndHl

/-- `x = 3`, `z = 6`: accumulator operation `y` on `n`. -/
def decodeImmediate (op n : Byte) : Instr :=
  match fieldY op with
  | 0 => .addAN n
  | 1 => .adcAN n
  | 2 => .subN n
  | 3 => .sbcAN n
  | 4 => .andN n
  | 5 => .xorN n
  | 6 => .orN n
  | _ => .cpN n

/-- `x = 3`, with the four prefixes in their places. -/
def decodeX3 (op b1 b2 b3 : Byte) : Instr :=
  match fieldZ op with
  | 0 => .retCc (condSel (fieldY op))
  | 1 =>
    match fieldY op with
    | 1 => .ret
    | 3 => .exx
    | 5 => .jpIndHl
    | 7 => .ldSpHl
    | _ => .popQq (pairQSel (fieldP op))
  | 2 => .jpCcNn (condSel (fieldY op)) (mkWord b2 b1)
  | 3 =>
    match fieldY op with
    | 0 => .jpNn (mkWord b2 b1)
    | 1 => decodeCb b1
    | 2 => .outIndNA b1
    | 3 => .inAIndN b1
    | 4 => .exIndSpHl
    | 5 => .exDeHl
    | 6 => .di
    | _ => .ei
  | 4 => .callCcNn (condSel (fieldY op)) (mkWord b2 b1)
  | 5 =>
    match fieldY op with
    | 1 => .callNn (mkWord b2 b1)
    | 3 => (decodeXy .ix b1 b2 b3).getD .loneDd
    | 5 => decodeEd b1 b2 b3
    | 7 => (decodeXy .iy b1 b2 b3).getD .loneFd
    | _ => .pushQq (pairQSel (fieldP op))
  | 6 => decodeImmediate op b1
  | _ => .rstP (numY op)

/-- The instruction that starts with the four bytes; bytes past its end are not looked at. Total: every byte sequence decodes
(30_encoding.md R105). -/
def decodeBytes (b0 b1 b2 b3 : Byte) : Instr :=
  match fieldX b0 with
  | 0 => decodeX0 b0 b1 b2
  | 1 => decodeX1 b0
  | 2 => decodeX2 b0
  | _ => decodeX3 b0 b1 b2 b3

/-- How many opcode bytes the dispatcher and the prefix handlers consume, hence how often `R` is incremented
(40_fetch_decode.md R131; D5). -/
def opcodeBytes (b0 b1 : Byte) : Nat :=
  if b0 = 0xCB ∨ b0 = 0xED then 2
  else if (b0 = 0xDD ∨ b0 = 0xFD) ∧ xyRecognised b1 then 2
  else 1

/-! ### Codes of the operands (30_encoding.md R95) -/

/-- The 3-bit code of a register (10_state.md R23). -/
def Reg8.code : Reg8 → BitVec 3
  | .b => 0
  | .c => 1
  | .d => 2
  | .e => 3
  | .h => 4
  | .l => 5
  | .a => 7

/-- The 2-bit code of `dd`, `ss` (10_state.md R24). -/
def Pair.code : Pair → BitVec 2
  | .bc => 0
  | .de => 1
  | .hl => 2
  | .sp => 3

/-- The 2-bit code of `qq` (10_state.md R24). -/
def PairQ.code : PairQ → BitVec 2
  | .bc => 0
  | .de => 1
  | .hl => 2
  | .af => 3

/-- The 2-bit code of `pp` (49_index.md R471). -/
def PairX.code : PairX → BitVec 2
  | .bc => 0
  | .de => 1
  | .xy => 2
  | .sp => 3

/-- The 3-bit code of a condition (30_encoding.md R96). -/
def Cond.code : Cond → BitVec 3
  | .nz => 0
  | .z => 1
  | .nc => 2
  | .c => 3
  | .po => 4
  | .pe => 5
  | .p => 6
  | .m => 7

/-- The opcode byte `xx yyy zzz` (30_encoding.md R94). -/
def opXYZ (x : BitVec 2) (y z : BitVec 3) : Byte := x ++ y ++ z

/-- The opcode byte `xx pp q zzz` (30_encoding.md R94). -/
def opXPQZ (x p : BitVec 2) (q : BitVec 1) (z : BitVec 3) : Byte := x ++ p ++ q ++ z

/-! ### The encoder (30_encoding.md R93, R100 to R104) -/

/-- The bytes of an instruction, in address order (30_encoding.md R93). -/
def encode : Instr → List Byte
  | .nop => [0x00]
  | .exAfAf => [0x08]
  | .djnz e => [0x10, e]
  | .jr e => [0x18, e]
  | .jrCc cc e => [opXYZ 0 (0b100 ||| cc.code) 0, e]
  | .ldDdNn dd nn => [opXPQZ 0 dd.code 0 1, wordLo nn, wordHi nn]
  | .addHlSs ss => [opXPQZ 0 ss.code 1 1]
  | .ldIndBcA => [0x02]
  | .ldIndDeA => [0x12]
  | .ldIndNnHl nn => [0x22, wordLo nn, wordHi nn]
  | .ldIndNnA nn => [0x32, wordLo nn, wordHi nn]
  | .ldAIndBc => [0x0A]
  | .ldAIndDe => [0x1A]
  | .ldHlIndNn nn => [0x2A, wordLo nn, wordHi nn]
  | .ldAIndNn nn => [0x3A, wordLo nn, wordHi nn]
  | .incSs ss => [opXPQZ 0 ss.code 0 3]
  | .decSs ss => [opXPQZ 0 ss.code 1 3]
  | .incR r => [opXYZ 0 r.code 4]
  | .incIndHl => [0x34]
  | .decR r => [opXYZ 0 r.code 5]
  | .decIndHl => [0x35]
  | .ldRN r n => [opXYZ 0 r.code 6, n]
  | .ldIndHlN n => [0x36, n]
  | .rlca => [0x07]
  | .rrca => [0x0F]
  | .rla => [0x17]
  | .rra => [0x1F]
  | .daa => [0x27]
  | .cpl => [0x2F]
  | .scf => [0x37]
  | .ccf => [0x3F]
  | .ldRR r r' => [opXYZ 1 r.code r'.code]
  | .ldRIndHl r => [opXYZ 1 r.code 6]
  | .ldIndHlR r => [opXYZ 1 6 r.code]
  | .halt => [0x76]
  | .addAR r => [opXYZ 2 0 r.code]
  | .addAIndHl => [opXYZ 2 0 6]
  | .addAN n => [opXYZ 3 0 6, n]
  | .adcAR r => [opXYZ 2 1 r.code]
  | .adcAIndHl => [opXYZ 2 1 6]
  | .adcAN n => [opXYZ 3 1 6, n]
  | .subR r => [opXYZ 2 2 r.code]
  | .subIndHl => [opXYZ 2 2 6]
  | .subN n => [opXYZ 3 2 6, n]
  | .sbcAR r => [opXYZ 2 3 r.code]
  | .sbcAIndHl => [opXYZ 2 3 6]
  | .sbcAN n => [opXYZ 3 3 6, n]
  | .andR r => [opXYZ 2 4 r.code]
  | .andIndHl => [opXYZ 2 4 6]
  | .andN n => [opXYZ 3 4 6, n]
  | .xorR r => [opXYZ 2 5 r.code]
  | .xorIndHl => [opXYZ 2 5 6]
  | .xorN n => [opXYZ 3 5 6, n]
  | .orR r => [opXYZ 2 6 r.code]
  | .orIndHl => [opXYZ 2 6 6]
  | .orN n => [opXYZ 3 6 6, n]
  | .cpR r => [opXYZ 2 7 r.code]
  | .cpIndHl => [opXYZ 2 7 6]
  | .cpN n => [opXYZ 3 7 6, n]
  | .retCc cc => [opXYZ 3 cc.code 0]
  | .popQq qq => [opXPQZ 3 qq.code 0 1]
  | .ret => [0xC9]
  | .exx => [0xD9]
  | .jpIndHl => [0xE9]
  | .ldSpHl => [0xF9]
  | .jpCcNn cc nn => [opXYZ 3 cc.code 2, wordLo nn, wordHi nn]
  | .jpNn nn => [0xC3, wordLo nn, wordHi nn]
  | .outIndNA n => [0xD3, n]
  | .inAIndN n => [0xDB, n]
  | .exIndSpHl => [0xE3]
  | .exDeHl => [0xEB]
  | .di => [0xF3]
  | .ei => [0xFB]
  | .callCcNn cc nn => [opXYZ 3 cc.code 4, wordLo nn, wordHi nn]
  | .pushQq qq => [opXPQZ 3 qq.code 0 5]
  | .callNn nn => [0xCD, wordLo nn, wordHi nn]
  | .rstP t => [opXYZ 3 t 7]
  | .rlcR r => [0xCB, opXYZ 0 0 r.code]
  | .rlcIndHl => [0xCB, opXYZ 0 0 6]
  | .rrcR r => [0xCB, opXYZ 0 1 r.code]
  | .rrcIndHl => [0xCB, opXYZ 0 1 6]
  | .rlR r => [0xCB, opXYZ 0 2 r.code]
  | .rlIndHl => [0xCB, opXYZ 0 2 6]
  | .rrR r => [0xCB, opXYZ 0 3 r.code]
  | .rrIndHl => [0xCB, opXYZ 0 3 6]
  | .slaR r => [0xCB, opXYZ 0 4 r.code]
  | .slaIndHl => [0xCB, opXYZ 0 4 6]
  | .sraR r => [0xCB, opXYZ 0 5 r.code]
  | .sraIndHl => [0xCB, opXYZ 0 5 6]
  | .sllR r => [0xCB, opXYZ 0 6 r.code]
  | .sllIndHl => [0xCB, opXYZ 0 6 6]
  | .srlR r => [0xCB, opXYZ 0 7 r.code]
  | .srlIndHl => [0xCB, opXYZ 0 7 6]
  | .bitBR b r => [0xCB, opXYZ 1 b r.code]
  | .bitBIndHl b => [0xCB, opXYZ 1 b 6]
  | .resBR b r => [0xCB, opXYZ 2 b r.code]
  | .resBIndHl b => [0xCB, opXYZ 2 b 6]
  | .setBR b r => [0xCB, opXYZ 3 b r.code]
  | .setBIndHl b => [0xCB, opXYZ 3 b 6]
  | .inRIndC r => [0xED, opXYZ 1 r.code 0]
  | .inIndC => [0xED, 0x70]
  | .outIndCR r => [0xED, opXYZ 1 r.code 1]
  | .outIndC0 => [0xED, 0x71]
  | .sbcHlSs ss => [0xED, opXPQZ 1 ss.code 0 2]
  | .adcHlSs ss => [0xED, opXPQZ 1 ss.code 1 2]
  | .ldIndNnDd nn dd => [0xED, opXPQZ 1 dd.code 0 3, wordLo nn, wordHi nn]
  | .ldDdIndNn dd nn => [0xED, opXPQZ 1 dd.code 1 3, wordLo nn, wordHi nn]
  | .neg y => [0xED, opXYZ 1 y 4]
  | .reti => [0xED, 0x4D]
  | .retn y => [0xED, opXYZ 1 y 5]
  | .im0 y => [0xED, opXYZ 1 y 6]
  | .im1 y => [0xED, opXYZ 1 y 6]
  | .im2 y => [0xED, opXYZ 1 y 6]
  | .ldIA => [0xED, 0x47]
  | .ldRefreshA => [0xED, 0x4F]
  | .ldAI => [0xED, 0x57]
  | .ldARefresh => [0xED, 0x5F]
  | .rrd => [0xED, 0x67]
  | .rld => [0xED, 0x6F]
  | .ldi => [0xED, 0xA0]
  | .ldd => [0xED, 0xA8]
  | .ldir => [0xED, 0xB0]
  | .lddr => [0xED, 0xB8]
  | .cpi => [0xED, 0xA1]
  | .cpd => [0xED, 0xA9]
  | .cpir => [0xED, 0xB1]
  | .cpdr => [0xED, 0xB9]
  | .ini => [0xED, 0xA2]
  | .ind => [0xED, 0xAA]
  | .inir => [0xED, 0xB2]
  | .indr => [0xED, 0xBA]
  | .outi => [0xED, 0xA3]
  | .outd => [0xED, 0xAB]
  | .otir => [0xED, 0xB3]
  | .otdr => [0xED, 0xBB]
  | .edNop00 b1 => [0xED, b1]
  | .edNop77 => [0xED, 0x77]
  | .edNop7F => [0xED, 0x7F]
  | .edNop80 b1 => [0xED, b1]
  | .edNopA4 b1 => [0xED, b1]
  | .edNopC0 b1 => [0xED, b1]
  | .addIxPp pp => [0xDD, opXPQZ 0 pp.code 1 1]
  | .ldIxNn nn => [0xDD, 0x21, wordLo nn, wordHi nn]
  | .ldIndNnIx nn => [0xDD, 0x22, wordLo nn, wordHi nn]
  | .ldIxIndNn nn => [0xDD, 0x2A, wordLo nn, wordHi nn]
  | .incIx => [0xDD, 0x23]
  | .decIx => [0xDD, 0x2B]
  | .incIxh => [0xDD, 0x24]
  | .incIxl => [0xDD, 0x2C]
  | .decIxh => [0xDD, 0x25]
  | .decIxl => [0xDD, 0x2D]
  | .ldIxhN n => [0xDD, 0x26, n]
  | .ldIxlN n => [0xDD, 0x2E, n]
  | .incIndIxd d => [0xDD, 0x34, d]
  | .decIndIxd d => [0xDD, 0x35, d]
  | .ldIndIxdN d n => [0xDD, 0x36, d, n]
  | .ldRIndIxd r d => [0xDD, opXYZ 1 r.code 6, d]
  | .ldIndIxdR d r => [0xDD, opXYZ 1 6 r.code, d]
  | .ldRIxh r => [0xDD, opXYZ 1 r.code 4]
  | .ldRIxl r => [0xDD, opXYZ 1 r.code 5]
  | .ldIxhR r => [0xDD, opXYZ 1 4 r.code]
  | .ldIxlR r => [0xDD, opXYZ 1 5 r.code]
  | .ldIxhIxh => [0xDD, opXYZ 1 4 4]
  | .ldIxhIxl => [0xDD, opXYZ 1 4 5]
  | .ldIxlIxh => [0xDD, opXYZ 1 5 4]
  | .ldIxlIxl => [0xDD, opXYZ 1 5 5]
  | .addAIxh => [0xDD, opXYZ 2 0 4]
  | .addAIxl => [0xDD, opXYZ 2 0 5]
  | .addAIndIxd d => [0xDD, opXYZ 2 0 6, d]
  | .adcAIxh => [0xDD, opXYZ 2 1 4]
  | .adcAIxl => [0xDD, opXYZ 2 1 5]
  | .adcAIndIxd d => [0xDD, opXYZ 2 1 6, d]
  | .subIxh => [0xDD, opXYZ 2 2 4]
  | .subIxl => [0xDD, opXYZ 2 2 5]
  | .subIndIxd d => [0xDD, opXYZ 2 2 6, d]
  | .sbcAIxh => [0xDD, opXYZ 2 3 4]
  | .sbcAIxl => [0xDD, opXYZ 2 3 5]
  | .sbcAIndIxd d => [0xDD, opXYZ 2 3 6, d]
  | .andIxh => [0xDD, opXYZ 2 4 4]
  | .andIxl => [0xDD, opXYZ 2 4 5]
  | .andIndIxd d => [0xDD, opXYZ 2 4 6, d]
  | .xorIxh => [0xDD, opXYZ 2 5 4]
  | .xorIxl => [0xDD, opXYZ 2 5 5]
  | .xorIndIxd d => [0xDD, opXYZ 2 5 6, d]
  | .orIxh => [0xDD, opXYZ 2 6 4]
  | .orIxl => [0xDD, opXYZ 2 6 5]
  | .orIndIxd d => [0xDD, opXYZ 2 6 6, d]
  | .cpIxh => [0xDD, opXYZ 2 7 4]
  | .cpIxl => [0xDD, opXYZ 2 7 5]
  | .cpIndIxd d => [0xDD, opXYZ 2 7 6, d]
  | .popIx => [0xDD, 0xE1]
  | .exIndSpIx => [0xDD, 0xE3]
  | .pushIx => [0xDD, 0xE5]
  | .jpIndIx => [0xDD, 0xE9]
  | .ldSpIx => [0xDD, 0xF9]
  | .rlcIndIxd d => [0xDD, 0xCB, d, opXYZ 0 0 6]
  | .rlcIndIxdR d r => [0xDD, 0xCB, d, opXYZ 0 0 r.code]
  | .rrcIndIxd d => [0xDD, 0xCB, d, opXYZ 0 1 6]
  | .rrcIndIxdR d r => [0xDD, 0xCB, d, opXYZ 0 1 r.code]
  | .rlIndIxd d => [0xDD, 0xCB, d, opXYZ 0 2 6]
  | .rlIndIxdR d r => [0xDD, 0xCB, d, opXYZ 0 2 r.code]
  | .rrIndIxd d => [0xDD, 0xCB, d, opXYZ 0 3 6]
  | .rrIndIxdR d r => [0xDD, 0xCB, d, opXYZ 0 3 r.code]
  | .slaIndIxd d => [0xDD, 0xCB, d, opXYZ 0 4 6]
  | .slaIndIxdR d r => [0xDD, 0xCB, d, opXYZ 0 4 r.code]
  | .sraIndIxd d => [0xDD, 0xCB, d, opXYZ 0 5 6]
  | .sraIndIxdR d r => [0xDD, 0xCB, d, opXYZ 0 5 r.code]
  | .sllIndIxd d => [0xDD, 0xCB, d, opXYZ 0 6 6]
  | .sllIndIxdR d r => [0xDD, 0xCB, d, opXYZ 0 6 r.code]
  | .srlIndIxd d => [0xDD, 0xCB, d, opXYZ 0 7 6]
  | .srlIndIxdR d r => [0xDD, 0xCB, d, opXYZ 0 7 r.code]
  | .bitBIndIxd b d z => [0xDD, 0xCB, d, opXYZ 1 b z]
  | .resBIndIxd b d => [0xDD, 0xCB, d, opXYZ 2 b 6]
  | .setBIndIxd b d => [0xDD, 0xCB, d, opXYZ 3 b 6]
  | .resBIndIxdR b d r => [0xDD, 0xCB, d, opXYZ 2 b r.code]
  | .setBIndIxdR b d r => [0xDD, 0xCB, d, opXYZ 3 b r.code]
  | .loneDd => [0xDD]
  | .addIyPp pp => [0xFD, opXPQZ 0 pp.code 1 1]
  | .ldIyNn nn => [0xFD, 0x21, wordLo nn, wordHi nn]
  | .ldIndNnIy nn => [0xFD, 0x22, wordLo nn, wordHi nn]
  | .ldIyIndNn nn => [0xFD, 0x2A, wordLo nn, wordHi nn]
  | .incIy => [0xFD, 0x23]
  | .decIy => [0xFD, 0x2B]
  | .incIyh => [0xFD, 0x24]
  | .incIyl => [0xFD, 0x2C]
  | .decIyh => [0xFD, 0x25]
  | .decIyl => [0xFD, 0x2D]
  | .ldIyhN n => [0xFD, 0x26, n]
  | .ldIylN n => [0xFD, 0x2E, n]
  | .incIndIyd d => [0xFD, 0x34, d]
  | .decIndIyd d => [0xFD, 0x35, d]
  | .ldIndIydN d n => [0xFD, 0x36, d, n]
  | .ldRIndIyd r d => [0xFD, opXYZ 1 r.code 6, d]
  | .ldIndIydR d r => [0xFD, opXYZ 1 6 r.code, d]
  | .ldRIyh r => [0xFD, opXYZ 1 r.code 4]
  | .ldRIyl r => [0xFD, opXYZ 1 r.code 5]
  | .ldIyhR r => [0xFD, opXYZ 1 4 r.code]
  | .ldIylR r => [0xFD, opXYZ 1 5 r.code]
  | .ldIyhIyh => [0xFD, opXYZ 1 4 4]
  | .ldIyhIyl => [0xFD, opXYZ 1 4 5]
  | .ldIylIyh => [0xFD, opXYZ 1 5 4]
  | .ldIylIyl => [0xFD, opXYZ 1 5 5]
  | .addAIyh => [0xFD, opXYZ 2 0 4]
  | .addAIyl => [0xFD, opXYZ 2 0 5]
  | .addAIndIyd d => [0xFD, opXYZ 2 0 6, d]
  | .adcAIyh => [0xFD, opXYZ 2 1 4]
  | .adcAIyl => [0xFD, opXYZ 2 1 5]
  | .adcAIndIyd d => [0xFD, opXYZ 2 1 6, d]
  | .subIyh => [0xFD, opXYZ 2 2 4]
  | .subIyl => [0xFD, opXYZ 2 2 5]
  | .subIndIyd d => [0xFD, opXYZ 2 2 6, d]
  | .sbcAIyh => [0xFD, opXYZ 2 3 4]
  | .sbcAIyl => [0xFD, opXYZ 2 3 5]
  | .sbcAIndIyd d => [0xFD, opXYZ 2 3 6, d]
  | .andIyh => [0xFD, opXYZ 2 4 4]
  | .andIyl => [0xFD, opXYZ 2 4 5]
  | .andIndIyd d => [0xFD, opXYZ 2 4 6, d]
  | .xorIyh => [0xFD, opXYZ 2 5 4]
  | .xorIyl => [0xFD, opXYZ 2 5 5]
  | .xorIndIyd d => [0xFD, opXYZ 2 5 6, d]
  | .orIyh => [0xFD, opXYZ 2 6 4]
  | .orIyl => [0xFD, opXYZ 2 6 5]
  | .orIndIyd d => [0xFD, opXYZ 2 6 6, d]
  | .cpIyh => [0xFD, opXYZ 2 7 4]
  | .cpIyl => [0xFD, opXYZ 2 7 5]
  | .cpIndIyd d => [0xFD, opXYZ 2 7 6, d]
  | .popIy => [0xFD, 0xE1]
  | .exIndSpIy => [0xFD, 0xE3]
  | .pushIy => [0xFD, 0xE5]
  | .jpIndIy => [0xFD, 0xE9]
  | .ldSpIy => [0xFD, 0xF9]
  | .rlcIndIyd d => [0xFD, 0xCB, d, opXYZ 0 0 6]
  | .rlcIndIydR d r => [0xFD, 0xCB, d, opXYZ 0 0 r.code]
  | .rrcIndIyd d => [0xFD, 0xCB, d, opXYZ 0 1 6]
  | .rrcIndIydR d r => [0xFD, 0xCB, d, opXYZ 0 1 r.code]
  | .rlIndIyd d => [0xFD, 0xCB, d, opXYZ 0 2 6]
  | .rlIndIydR d r => [0xFD, 0xCB, d, opXYZ 0 2 r.code]
  | .rrIndIyd d => [0xFD, 0xCB, d, opXYZ 0 3 6]
  | .rrIndIydR d r => [0xFD, 0xCB, d, opXYZ 0 3 r.code]
  | .slaIndIyd d => [0xFD, 0xCB, d, opXYZ 0 4 6]
  | .slaIndIydR d r => [0xFD, 0xCB, d, opXYZ 0 4 r.code]
  | .sraIndIyd d => [0xFD, 0xCB, d, opXYZ 0 5 6]
  | .sraIndIydR d r => [0xFD, 0xCB, d, opXYZ 0 5 r.code]
  | .sllIndIyd d => [0xFD, 0xCB, d, opXYZ 0 6 6]
  | .sllIndIydR d r => [0xFD, 0xCB, d, opXYZ 0 6 r.code]
  | .srlIndIyd d => [0xFD, 0xCB, d, opXYZ 0 7 6]
  | .srlIndIydR d r => [0xFD, 0xCB, d, opXYZ 0 7 r.code]
  | .bitBIndIyd b d z => [0xFD, 0xCB, d, opXYZ 1 b z]
  | .resBIndIyd b d => [0xFD, 0xCB, d, opXYZ 2 b 6]
  | .setBIndIyd b d => [0xFD, 0xCB, d, opXYZ 3 b 6]
  | .resBIndIydR b d r => [0xFD, 0xCB, d, opXYZ 2 b r.code]
  | .setBIndIydR b d r => [0xFD, 0xCB, d, opXYZ 3 b r.code]
  | .loneFd => [0xFD]

/-- The length `L` in bytes (30_encoding.md R91). -/
def Instr.length (i : Instr) : Nat := (encode i).length

/-- How many bytes the decode reads: a lone `DD` or `FD` also looks at the byte after it (40_fetch_decode.md R136; 20_memory.md
R72). -/
def Instr.bytesRead : Instr → Nat
  | .loneDd => 2
  | .loneFd => 2
  | i => i.length

/-! ### Decoding a list of bytes -/

/-- Why a list of bytes does not decode. -/
inductive DecodeError where
  /-- The list ends before the decode has the bytes it reads. No byte is illegal (30_encoding.md R105). -/
  | truncated
  deriving DecidableEq, Repr

/-- The instruction at the head of a list of bytes and the bytes after it. -/
def decode (bs : List Byte) : Except DecodeError (Instr × List Byte) :=
  let i := decodeBytes (bs.getD 0 0) (bs.getD 1 0) (bs.getD 2 0) (bs.getD 3 0)
  if i.bytesRead ≤ bs.length then .ok (i, bs.drop i.length) else .error .truncated

/-- The `k`-th byte of an instruction whose `nbits` bits are `w`, numbered as the opcode table numbers them (the first byte least
significant, log 17); bytes past `nbits` are 0. -/
def tableByte (nbits w k : Nat) : Byte := BitVec.ofNat 8 (w % 2 ^ nbits / 256 ^ k)

/-- The four bytes of a word of the opcode table, in address order. -/
def tableBytes (nbits w : Nat) : List Byte :=
  [tableByte nbits w 0, tableByte nbits w 1, tableByte nbits w 2, tableByte nbits w 3]

/-- The instruction the decoder reads from a word of the opcode table. -/
def decodeTableWord (nbits w : Nat) : Option Instr :=
  match decode (tableBytes nbits w) with
  | .ok (i, _) => some i
  | .error _ => none

end Sys2Proof
end

