-- ==== Sys2Proof/Machine/Flags.lean ====
section
/-! DEFINITION. The flag register and every kernel: the pure functions from operand bytes and incoming flags to a result
and new flags (43_alu8.md R230 to R237, R267 to R271; 44_alu16.md R280 to R282; 45_rotate_shift_bit.md R300 to R302).
Each follows its rule's pseudocode: compute over the integers, then narrow. -/

namespace Sys2Proof.Machine

/-- The eight flags, in the order `S Z Y H X P N C` of 10_state.md R27. -/
structure Flags where
  s : Bool
  z : Bool
  y : Bool
  h : Bool
  x : Bool
  p : Bool
  n : Bool
  c : Bool
  deriving DecidableEq, Repr

/-- `F[7] = S` down to `F[0] = C` (10_state.md R27). -/
def Flags.pack (g : Flags) : Byte :=
  BitVec.ofBool g.s ++ BitVec.ofBool g.z ++ BitVec.ofBool g.y ++ BitVec.ofBool g.h ++
    BitVec.ofBool g.x ++ BitVec.ofBool g.p ++ BitVec.ofBool g.n ++ BitVec.ofBool g.c

/-- The flags a byte packs (10_state.md R27). -/
def unpackFlags (v : Byte) : Flags :=
  { s := v.getLsbD 7, z := v.getLsbD 6, y := v.getLsbD 5, h := v.getLsbD 4,
    x := v.getLsbD 3, p := v.getLsbD 2, n := v.getLsbD 1, c := v.getLsbD 0 }

/-- The number of 1 bits of a byte. -/
def popCount (v : Byte) : Nat :=
  (v.getLsbD 0).toNat + (v.getLsbD 1).toNat + (v.getLsbD 2).toNat + (v.getLsbD 3).toNat +
    (v.getLsbD 4).toNat + (v.getLsbD 5).toNat + (v.getLsbD 6).toNat + (v.getLsbD 7).toNat

/-- `parity(v)`: 1 if the number of 1 bits is even (00_scope.md R12). -/
def parity (v : Byte) : Bool := popCount v % 2 == 0

/-- `S,Z,Y,X from v` (10_state.md R28), the other flags as in `g`. -/
def szyxFrom (v : Byte) (g : Flags) : Flags :=
  { g with s := v.getLsbD 7, z := v == 0, y := v.getLsbD 5, x := v.getLsbD 3 }

/-- Kernel `ADD8(a, x, c)` (43_alu8.md R230). -/
def add8 (a x : Byte) (c : Bool) : Byte × Flags :=
  let s : Nat := a.toNat + x.toNat + c.toNat
  let r := BitVec.ofNat 8 s
  (r, { s := r.getLsbD 7
        z := r == 0
        y := r.getLsbD 5
        h := decide (a.toNat % 16 + x.toNat % 16 + c.toNat > 0xF)
        x := r.getLsbD 3
        p := a.getLsbD 7 == x.getLsbD 7 && a.getLsbD 7 != r.getLsbD 7
        n := false
        c := decide (s > 0xFF) })

/-- Kernel `SUB8(a, x, c)` (43_alu8.md R231; carry as borrow: D7). -/
def sub8 (a x : Byte) (c : Bool) : Byte × Flags :=
  let s : Int := (a.toNat : Int) - x.toNat - c.toNat
  let r := BitVec.ofInt 8 s
  (r, { s := r.getLsbD 7
        z := r == 0
        y := r.getLsbD 5
        h := decide (((a.toNat % 16 : Nat) : Int) - (x.toNat % 16 : Nat) - c.toNat < 0)
        x := r.getLsbD 3
        p := a.getLsbD 7 != x.getLsbD 7 && a.getLsbD 7 != r.getLsbD 7
        n := true
        c := decide (s < 0) })

/-- Flags of a logical result `r`: `S,Z,Y,X` and parity from `r`, `H` as given, `N = C = 0` (43_alu8.md R232 to R234;
`S,Z,Y,X`: D6). -/
def logicFlags (r : Byte) (h : Bool) : Flags :=
  { s := r.getLsbD 7, z := r == 0, y := r.getLsbD 5, h := h,
    x := r.getLsbD 3, p := parity r, n := false, c := false }

/-- Kernel `AND8` (43_alu8.md R232). -/
def and8 (a x : Byte) : Byte × Flags := (a &&& x, logicFlags (a &&& x) true)

/-- Kernel `XOR8` (43_alu8.md R233). -/
def xor8 (a x : Byte) : Byte × Flags := (a ^^^ x, logicFlags (a ^^^ x) false)

/-- Kernel `OR8` (43_alu8.md R234). -/
def or8 (a x : Byte) : Byte × Flags := (a ||| x, logicFlags (a ||| x) false)

/-- Kernel `CP8`: the flags of `SUB8(a, x, 0)`, with `X,Y` from the operand (43_alu8.md R235). -/
def cp8 (a x : Byte) : Flags :=
  { (sub8 a x false).2 with x := x.getLsbD 3, y := x.getLsbD 5 }

/-- Kernel `INC8(x)`; `C` unchanged (43_alu8.md R236). -/
def inc8 (x : Byte) (g : Flags) : Byte × Flags :=
  let r := BitVec.ofNat 8 (x.toNat + 1)
  (r, { szyxFrom r g with h := x.toNat % 16 == 0xF, p := x == 0x7F, n := false })

/-- Kernel `DEC8(x)`; `C` unchanged (43_alu8.md R237). -/
def dec8 (x : Byte) (g : Flags) : Byte × Flags :=
  let r := BitVec.ofInt 8 ((x.toNat : Int) - 1)
  (r, { szyxFrom r g with h := x.toNat % 16 == 0, p := x == 0x80, n := true })

/-- `DAA` (43_alu8.md R267): both tests on the value `A` has before any adjustment (D19). -/
def daa8 (a : Byte) (g : Flags) : Byte × Flags :=
  let low := g.h || decide (a.toNat % 16 > 9)
  let high := g.c || decide (a.toNat > 0x99)
  let fix : Int := (if low then 0x06 else 0) + (if high then 0x60 else 0)
  let t : Int := if g.n then (a.toNat : Int) - fix else a.toNat + fix
  let r := BitVec.ofInt 8 t
  (r, { szyxFrom r g with
          h := a.getLsbD 4 ^^ r.getLsbD 4
          p := parity r
          c := g.c || decide (a.toNat > 0x99) })

/-- `CPL` (43_alu8.md R268; flags D29). -/
def cplA (a : Byte) (g : Flags) : Byte × Flags :=
  let r := a ^^^ 0xFF
  (r, { g with h := true, n := true, x := r.getLsbD 3, y := r.getLsbD 5 })

/-- Flags of `SCF` (43_alu8.md R270; `H`, `N`: D29). -/
def scfFlags (a : Byte) (g : Flags) : Flags :=
  { g with c := true, h := false, n := false, x := a.getLsbD 3, y := a.getLsbD 5 }

/-- Flags of `CCF` (43_alu8.md R271; `H`, `N`: D29). -/
def ccfFlags (a : Byte) (g : Flags) : Flags :=
  { g with h := g.c, c := !g.c, n := false, x := a.getLsbD 3, y := a.getLsbD 5 }

/-- Kernel `ADD16(a, x)`; `S,Z,P` unchanged (44_alu16.md R280). -/
def add16 (a x : Word) (g : Flags) : Word × Flags :=
  let s : Nat := a.toNat + x.toNat
  let r := BitVec.ofNat 16 s
  (r, { g with
          h := decide (a.toNat % 0x1000 + x.toNat % 0x1000 > 0x0FFF)
          n := false
          c := decide (s > 0xFFFF)
          x := r.getLsbD 11
          y := r.getLsbD 13 })

/-- Kernel `ADC16(a, x, c)` (44_alu16.md R281; D15). -/
def adc16 (a x : Word) (c : Bool) : Word × Flags :=
  let s : Nat := a.toNat + x.toNat + c.toNat
  let r := BitVec.ofNat 16 s
  (r, { s := r.getLsbD 15
        z := r == 0
        y := r.getLsbD 13
        h := decide (a.toNat % 0x1000 + x.toNat % 0x1000 + c.toNat > 0x0FFF)
        x := r.getLsbD 11
        p := a.getLsbD 15 == x.getLsbD 15 && a.getLsbD 15 != r.getLsbD 15
        n := false
        c := decide (s > 0xFFFF) })

/-- Kernel `SBC16(a, x, c)` (44_alu16.md R282; D15). -/
def sbc16 (a x : Word) (c : Bool) : Word × Flags :=
  let s : Int := (a.toNat : Int) - x.toNat - c.toNat
  let r := BitVec.ofInt 16 s
  (r, { s := r.getLsbD 15
        z := r == 0
        y := r.getLsbD 13
        h := decide (((a.toNat % 0x1000 : Nat) : Int) - (x.toNat % 0x1000 : Nat) - c.toNat < 0)
        x := r.getLsbD 11
        p := a.getLsbD 15 != x.getLsbD 15 && a.getLsbD 15 != r.getLsbD 15
        n := true
        c := decide (s < 0) })

/-- The eight shift and rotate kinds, in the order of 45_rotate_shift_bit.md R300. -/
inductive ShiftKind where
  | rlc
  | rrc
  | rl
  | rr
  | sla
  | sra
  | sll
  | srl
  deriving DecidableEq, Repr

/-- A Boolean as the byte 0 or 1. -/
def bitByte (c : Bool) : Byte := if c then 1 else 0

/-- Kernel `SHIFT(k, x, c)`: the result byte and the carry-out (45_rotate_shift_bit.md R300). -/
def shift (k : ShiftKind) (x : Byte) (c : Bool) : Byte × Bool :=
  match k with
  | .rlc => ((x <<< 1) ||| bitByte (x.getLsbD 7), x.getLsbD 7)
  | .rrc => ((x >>> 1) ||| (bitByte (x.getLsbD 0) <<< 7), x.getLsbD 0)
  | .rl => ((x <<< 1) ||| bitByte c, x.getLsbD 7)
  | .rr => ((x >>> 1) ||| (bitByte c <<< 7), x.getLsbD 0)
  | .sla => (x <<< 1, x.getLsbD 7)
  | .sra => ((x >>> 1) ||| (x &&& 0x80), x.getLsbD 0)
  | .sll => ((x <<< 1) ||| 1, x.getLsbD 7)
  | .srl => (x >>> 1, x.getLsbD 0)

/-- The flags of the CB-plane and composite-plane use of `SHIFT` (45_rotate_shift_bit.md R300). -/
def shiftFlags (r : Byte) (co : Bool) : Flags :=
  { s := r.getLsbD 7, z := r == 0, y := r.getLsbD 5, h := false,
    x := r.getLsbD 3, p := parity r, n := false, c := co }

/-- The flags of `RLCA/RRCA/RLA/RRA`: `S,Z,P` unchanged, `X,Y` of the new `A` (45_rotate_shift_bit.md R320 to R323; D32). -/
def rotateAFlags (r : Byte) (co : Bool) (g : Flags) : Flags :=
  { g with h := false, n := false, c := co, x := r.getLsbD 3, y := r.getLsbD 5 }

/-- Kernel `BITTEST(n, x)`; `C` unchanged (45_rotate_shift_bit.md R301). -/
def bitTest (n : Field3) (x : Byte) (g : Flags) : Flags :=
  let z := !x.getLsbD n.toNat
  { g with
      z := z
      p := z
      s := n == 7 && !z
      h := true
      n := false
      x := n == 3 && !z
      y := n == 5 && !z }

/-- Kernel `RESBIT(n, x) = x & ~(1 << n)` (45_rotate_shift_bit.md R302). -/
def resBit (n : Field3) (x : Byte) : Byte := x &&& ~~~((1 : Byte) <<< n.toNat)

/-- Kernel `SETBIT(n, x) = x | (1 << n)` (45_rotate_shift_bit.md R302). -/
def setBit (n : Field3) (x : Byte) : Byte := x ||| ((1 : Byte) <<< n.toNat)

/-- `RLD` on `A` and the memory byte `m`: the new memory byte and the new `A` (45_rotate_shift_bit.md R330; D31). -/
def rldNibbles (a m : Byte) : Byte × Byte :=
  (((m <<< 4) &&& 0xF0) ||| (a &&& 0x0F), (a &&& 0xF0) ||| (m >>> 4))

/-- `RRD` on `A` and the memory byte `m`: the new memory byte and the new `A` (45_rotate_shift_bit.md R331; D31). -/
def rrdNibbles (a m : Byte) : Byte × Byte :=
  (((a &&& 0x0F) <<< 4) ||| (m >>> 4), (a &&& 0xF0) ||| (m &&& 0x0F))

/-- Flags of a value moved with its parity, `H = N = 0`, `C` unchanged: `RLD`/`RRD` (45_rotate_shift_bit.md R330), `IN r,(C)`
and `IN (C)` (47_io_system.md R392; D17). -/
def inFlags (v : Byte) (g : Flags) : Flags :=
  { szyxFrom v g with h := false, p := parity v, n := false }

/-- Flags of `LD A,I` and `LD A,R`: as a moved value, with `IFF2` in `P` (47_io_system.md R400; D18). -/
def specialFlags (v : Byte) (iff2 : Bool) (g : Flags) : Flags :=
  { szyxFrom v g with h := false, p := iff2, n := false }

/-- Flags of the block transfers: `n = A + v`, `bcLeft` whether the decremented `BC` is not 0 (48_block.md R431). -/
def blockLoadFlags (a v : Byte) (bcLeft : Bool) (g : Flags) : Flags :=
  let n := BitVec.ofNat 8 (a.toNat + v.toNat)
  { g with h := false, n := false, p := bcLeft, x := n.getLsbD 3, y := n.getLsbD 1 }

/-- Flags of the block searches; `X,Y` are bits 3 and 1 of `A - v - H` (48_block.md R435; D14); `C` unchanged. -/
def blockCompareFlags (a v : Byte) (bcLeft : Bool) (g : Flags) : Flags :=
  let r := BitVec.ofInt 8 ((a.toNat : Int) - v.toNat)
  let h := decide (((a.toNat % 16 : Nat) : Int) - (v.toNat % 16 : Nat) < 0)
  let n := BitVec.ofInt 8 ((r.toNat : Int) - h.toNat)
  { g with
      s := r.getLsbD 7
      z := r == 0
      h := h
      n := true
      p := bcLeft
      x := n.getLsbD 3
      y := n.getLsbD 1 }

end Sys2Proof.Machine
end

