-- ==== Sys2Proof/Config.lean ====
section
/-! DEFINITION. What an implementation or the host fixes: the parameters of 00_scope.md R6 that change a behaviour
(`Params`), and the values the spec leaves free, each an opaque constant with no body, so that nothing in Lean can
tell what it is. -/

namespace Sys2Proof

/-- One bus operation, as the host sees it (20_memory.md R60): the operation, its 16-bit address or port, and the
byte that was answered or written. -/
inductive BusOp where
  /-- `mem_read(addr)` answered `v`. -/
  | memRead (addr : Word) (v : Byte)
  /-- `mem_write(addr, v)`. -/
  | memWrite (addr : Word) (v : Byte)
  /-- `io_read(port)` answered `v`. -/
  | ioRead (port : Word) (v : Byte)
  /-- `io_write(port, v)`. -/
  | ioWrite (port : Word) (v : Byte)
  deriving DecidableEq, Repr

namespace Config

/-- What the host keeps at an address: the block sees only what a read answers and never whether a write took effect
(20_memory.md R61, R62). -/
inductive MemKind where
  /-- A read answers the byte last written. -/
  | ram
  /-- A write is a no-op: "may be a no-op for ROM" (20_memory.md R60). -/
  | rom
  /-- A read answers what the host makes of it, a write is only seen by the host (20_memory.md R61). -/
  | device
  deriving DecidableEq, Repr

/-- A region of the memory map: the addresses from `first` to `last`. -/
structure Region where
  first : Word
  last : Word
  kind : MemKind
  deriving DecidableEq, Repr

/-- The parameters of 00_scope.md R6 that are plain data. They are fixed for a machine; State carries them so that a
statement about every state covers all their values (log 3, 6). -/
structure Params where
  /-- `io_block_repeat_on_bc` (D13): `INIR/INDR/OTIR/OTDR` end on `BC = 0` if true, on `B = 0` if false. -/
  ioBlockRepeatOnBc : Bool
  /-- `im0_adds_base_cost` (D21): a mode-0 acceptance also adds the injected main-plane instruction's base cost. -/
  im0AddsBaseCost : Bool
  /-- `cycle_counts_ddcb` (D12): the per-`op` term of the composite plane's cost, the entry `op`; 0 past the list's end. -/
  ddcbCosts : List Nat
  /-- The host memory's map (D22, D23): the first region that holds an address says its kind; RAM where none does. -/
  memMap : List Region
  deriving DecidableEq, Repr

/-- The spec's default parameters (00_scope.md R6; D12, D13, D21), with the usual host memory, all RAM (20_memory.md R61; D23). -/
def Params.default : Params :=
  { ioBlockRepeatOnBc := true, im0AddsBaseCost := false, ddcbCosts := [], memMap := [] }

/-- `cycle_counts_ddcb(op)` (00_scope.md R6, "default 0"; 49_index.md R527). -/
def Params.cycleCountsDdcb (p : Params) (op : Byte) : Nat := p.ddcbCosts.getD op.toNat 0

/-- The kind of an address under a memory map. -/
def kindIn : List Region → Word → MemKind
  | [], _ => .ram
  | g :: rest, a => if g.first ≤ a ∧ a ≤ g.last then g.kind else kindIn rest a

/-- The kind of an address. -/
def Params.kindAt (p : Params) (a : Word) : MemKind := kindIn p.memMap a

/-- The cost table `cycle_counts_main` (00_scope.md R6, D12). UNVERIFIED, safe: its values are free (log 4). -/
opaque cycleCountsMain : Byte → Nat

/-- The cost table `cycle_counts_cb` (00_scope.md R6, D12). UNVERIFIED, safe: its values are free (log 4). -/
opaque cycleCountsCb : Byte → Nat

/-- One less than a non-zero entry of `cycle_counts_ed`. UNVERIFIED, safe (log 4). Machine/Ops.lean makes the table of
it: zero exactly on the unrecognised second bytes (70_reset_and_hazards.md R597). -/
opaque cycleCountsEdPred : Byte → Nat

/-- One less than a non-zero entry of `cycle_counts_dd`. UNVERIFIED, safe (log 4). -/
opaque cycleCountsDdPred : Byte → Nat

/-- What the host answers to `io_read(port)` after the bus operations performed so far, newest first: an oracle under
no law (20_memory.md R63; U3, D23). UNVERIFIED, safe (log 5). -/
opaque ioIn : List BusOp → Word → Byte

/-- What the host answers to `mem_read(addr)` in a device region, likewise: "the block assumes nothing about it"
(20_memory.md R61). UNVERIFIED, safe (log 3). -/
opaque memIn : List BusOp → Word → Byte

/-- The bit both `IFF1` and `IFF2` take when a step commits with both pending flags set (40_fetch_decode.md R138;
U6, D10): one free bit per occasion, numbered by State's counter. UNVERIFIED, safe (log 7). -/
opaque commitBit : Nat → Bool

end Config

end Sys2Proof
end

