-- ==== Sys2Proof/Machine/State.lean ====
section
/-! DEFINITION. The state of the machine as plain data: every register and flip-flop 10_state.md gives the block, the host
memory behind its bus, the two parameters, and the model's own fields (the bus trace, the host's script). Its value
right after reset, and the (empty) type of faults. -/

namespace Sys2Proof.Machine

/-- A register bank: `A F B C D E H L`, 8 bits each (10_state.md R20, R21). -/
structure Bank where
  a : Byte
  f : Byte
  b : Byte
  c : Byte
  d : Byte
  e : Byte
  h : Byte
  l : Byte
  deriving DecidableEq, Repr

/-- The interrupt mode, a value in 0, 1, 2 (10_state.md R34: "the value 3 never occurs"). -/
inductive IntMode where
  | im0
  | im1
  | im2
  deriving DecidableEq, Repr

/-- One call the host makes between steps (60_exceptions.md R541; 70_reset_and_hazards.md R580, R582). -/
inductive HostCall where
  /-- `step_instruction()`. -/
  | stepInstruction
  /-- `irq(non_maskable, data)`. -/
  | irq (nonMaskable : Bool) (data : Byte)
  /-- `reset()`. -/
  | reset
  deriving DecidableEq, Repr

/-- The host memory: the listed cells, addresses strictly rising, no cell listing what an unlisted address reads as
(20_memory.md R61, R65; log 2). -/
abbrev Memory := List Host.Cell

/-- The whole state. Fields down to `cyc` are the block's (10_state.md R20 to R37); `mem` and `params` are the host's
(20_memory.md R61; 00_scope.md R6); the rest are the model's own (log 5, 7, 8, 9, 10). -/
structure State where
  /-- The main bank `A F B C D E H L` (R20). -/
  main : Bank
  /-- The shadow bank `A' F' B' C' D' E' H' L'` (R21). -/
  shadow : Bank
  /-- `IX` (R22). -/
  ix : Word
  /-- `IY` (R22). -/
  iy : Word
  /-- `SP` (R25). -/
  sp : Word
  /-- `PC` (R26). -/
  pc : Word
  /-- `I`, the interrupt-vector high byte (R31). -/
  i : Byte
  /-- `R`, the refresh counter; bit 7 is a plain storage bit (R32). -/
  r : Byte
  /-- `IFF1`: maskable requests are accepted (R33). -/
  iff1 : Bool
  /-- `IFF2`: the copy of `IFF1` that survives an NMI (R33). -/
  iff2 : Bool
  /-- `IM` (R34). -/
  im : IntMode
  /-- `halted` (R35). -/
  halted : Bool
  /-- `pending_di` (R36). -/
  pendingDi : Bool
  /-- `pending_ei` (R36). -/
  pendingEi : Bool
  /-- `cyc`, the T-state accumulator (R37). -/
  cyc : Nat
  /-- The host memory (20_memory.md R61). -/
  mem : Memory
  /-- The parameters fixed for the machine, the memory map among them (00_scope.md R6); no step changes them. -/
  params : Config.Params
  /-- The bus operations performed so far, newest first (20_memory.md R72, R73; log 9). -/
  bus : List BusOp
  /-- The host's prepared answers to the next reads that no memory cell decides, of ports and of device regions; when none is
  left the answer is free (log 3, 5). -/
  hostAnswers : List Byte
  /-- The host's next calls; when none is left the host calls `step_instruction` (log 8). -/
  schedule : List HostCall
  /-- What the last `step_instruction()` returned (40_fetch_decode.md R130; log 10). -/
  stepReturn : Nat
  /-- How many free bits have been drawn (log 7). -/
  freeCount : Nat
  deriving DecidableEq, Repr

/-- The block has no fault: "The table of exception causes is empty" (60_exceptions.md R540). Nothing raises one; safe. -/
inductive Fault : Type
  deriving DecidableEq, Repr

/-- Why a step has no meaning. -/
inductive Refusal where
  /-- The instruction has no meaning yet; only an arm of `exec` answers so, and none does. Safe. -/
  | notModelled (mnemonic : String)
  deriving DecidableEq, Repr

/-- The bank before the first reset, the parameter `init_regs`. DESIGN CHOICE, unsafe: the spec gives no value and the
model takes zero for every register reset does not write (10_state.md R49; D8, D40; log 1). -/
def Bank.initial : Bank := { a := 0, f := 0, b := 0, c := 0, d := 0, e := 0, h := 0, l := 0 }

/-- The machine right after reset: 10_state.md R48, with `init_regs` (log 1), memory with nothing listed (log 2), the
spec's default parameters (log 6), and empty scripts (log 5, 8). -/
def State.reset : State :=
  { main := { Bank.initial with a := 0x00, f := 0x00 }
    shadow := Bank.initial
    ix := 0
    iy := 0
    sp := 0xDFF0
    pc := 0x0000
    i := 0
    r := 0x00
    iff1 := false
    iff2 := false
    im := .im0
    halted := false
    pendingDi := false
    pendingEi := false
    cyc := 0
    mem := []
    params := Config.Params.default
    bus := []
    hostAnswers := []
    schedule := []
    stepReturn := 0
    freeCount := 0 }

end Sys2Proof.Machine
end

