-- ==== Sys2Proof/Machine/Ops.lean ====
section
/-! DEFINITION. The named operations every meaning is built from: memory and the four bus operations, the register
accessors, the stack, the ends of an instruction, the cost of an instruction, the delayed `EI`/`DI` commit, the
`reset` port, and the acceptance of an interrupt and the return from one. -/

namespace Sys2Proof.Machine

/-- What an instruction's meaning answers. -/
abbrev Out := Host.Outcome State Fault Refusal

/-! ### The host memory -/

/-- What an address nothing lists reads as. DESIGN CHOICE, unsafe: zero, the spec's convention for its tests (U2, D23; log 2). -/
def unlistedByte : Byte := 0

/-- The byte at an address (20_memory.md R61). -/
def Memory.read : Memory → Nat → Byte
  | [], _ => unlistedByte
  | (k, v) :: m, a => if k = a then v else Memory.read m a

/-- Store a byte, keeping addresses rising and listing no cell that reads as an unlisted one (20_memory.md R62; log 3). -/
def Memory.write : Memory → Nat → Byte → Memory
  | [], a, v => if v = unlistedByte then [] else [(a, v)]
  | (k, w) :: m, a, v =>
    if a < k then
      if v = unlistedByte then (k, w) :: m else (a, v) :: (k, w) :: m
    else if a = k then
      if v = unlistedByte then m else (a, v) :: m
    else (k, w) :: Memory.write m a v

/-- The cells from `lo` on: addresses strictly rising from `lo`, below 2^16, no unlisted byte listed. -/
def memoryWfFrom : Nat → Memory → Bool
  | _, [] => true
  | lo, (k, v) :: m => decide (lo ≤ k) && decide (k < 0x10000) && v != unlistedByte && memoryWfFrom (k + 1) m

/-- The canonical form of memory. -/
def Memory.wf (m : Memory) : Bool := memoryWfFrom 0 m

/-- The kind of an address in the host's memory map (20_memory.md R61, R62; log 3). -/
def State.kindAt (s : State) (a : Word) : Config.MemKind := s.params.kindAt a

/-- A write to the address takes effect. -/
def State.writable (s : State) (a : Word) : Bool := s.kindAt a == .ram

/-- A read of the address is answered by no memory cell. -/
def State.isDevice (s : State) (a : Word) : Bool := s.kindAt a == .device

/-- The host's next prepared answer, or the free value (log 3, 5). -/
def State.nextAnswer (s : State) (free : Byte) : Byte :=
  match s.hostAnswers with
  | [] => free
  | v :: _ => v

/-- What `mem_read(a)` answers now, without performing the operation: the cell, or in a device region the host's answer
(20_memory.md R61). -/
def State.peek (s : State) (a : Word) : Byte :=
  if s.isDevice a then s.nextAnswer (Config.memIn s.bus a) else s.mem.read a.toNat

/-- The prepared answers a `mem_read(a)` leaves. -/
def State.answersAfter (s : State) (a : Word) : List Byte :=
  if s.isDevice a then s.hostAnswers.tail else s.hostAnswers

/-- The cells a `mem_write(a, v)` leaves: no change but in RAM (20_memory.md R60, R62). -/
def storeCell (p : Config.Params) (m : Memory) (a : Word) (v : Byte) : Memory :=
  if p.kindAt a = .ram then m.write a.toNat v else m

/-! ### The bus (20_memory.md R60; 00_scope.md R10) -/

/-- `mem_read(a)`: the byte, and the operation on the bus. -/
def State.memRead (s : State) (a : Word) : Byte × State :=
  (s.peek a, { s with bus := .memRead a (s.peek a) :: s.bus, hostAnswers := s.answersAfter a })

/-- `mem_write(a, v)`. -/
def State.memWrite (s : State) (a : Word) (v : Byte) : State :=
  { s with mem := storeCell s.params s.mem a v, bus := .memWrite a v :: s.bus }

/-- `MemRead(a, 2)`: low byte at `a`, then high byte at `a + 1` (00_scope.md R10). -/
def State.memRead16 (s : State) (a : Word) : Word × State :=
  let lo := s.memRead a
  let hi := lo.2.memRead (a + 1)
  (mkWord hi.1 lo.1, hi.2)

/-- `MemWrite(a, 2, v)`: low byte at `a`, then high byte at `a + 1` (00_scope.md R10). -/
def State.memWrite16 (s : State) (a v : Word) : State :=
  (s.memWrite a (wordLo v)).memWrite (a + 1) (wordHi v)

/-- What the host answers to `io_read(port)` now: its next prepared answer, or a free value (20_memory.md R63; U3; log 5). -/
def State.ioAnswer (s : State) (port : Word) : Byte := s.nextAnswer (Config.ioIn s.bus port)

/-- `io_read(port)`: the answer, and the operation on the bus. -/
def State.ioRead (s : State) (port : Word) : Byte × State :=
  (s.ioAnswer port,
    { s with bus := .ioRead port (s.ioAnswer port) :: s.bus, hostAnswers := s.hostAnswers.tail })

/-- `io_write(port, v)`. -/
def State.ioWrite (s : State) (port : Word) (v : Byte) : State :=
  { s with bus := .ioWrite port v :: s.bus }

/-! ### Registers -/

/-- `r8[i]` of a bank, `i ≠ 6` (10_state.md R23). -/
def Bank.get (b : Bank) : Reg8 → Byte
  | .b => b.b
  | .c => b.c
  | .d => b.d
  | .e => b.e
  | .h => b.h
  | .l => b.l
  | .a => b.a

/-- Write `r8[i]` of a bank, `i ≠ 6` (10_state.md R23). -/
def Bank.set (b : Bank) (r : Reg8) (v : Byte) : Bank :=
  match r with
  | .b => { b with b := v }
  | .c => { b with c := v }
  | .d => { b with d := v }
  | .e => { b with e := v }
  | .h => { b with h := v }
  | .l => { b with l := v }
  | .a => { b with a := v }

/-- `BC = B*256 + C` (10_state.md R24). -/
def Bank.bc (b : Bank) : Word := mkWord b.b b.c

/-- `DE = D*256 + E` (10_state.md R24). -/
def Bank.de (b : Bank) : Word := mkWord b.d b.e

/-- `HL = H*256 + L` (10_state.md R24). -/
def Bank.hl (b : Bank) : Word := mkWord b.h b.l

/-- `AF = A*256 + F` (10_state.md R24). -/
def Bank.af (b : Bank) : Word := mkWord b.a b.f

/-- Read an 8-bit register of the main bank. -/
def State.reg (s : State) (r : Reg8) : Byte := s.main.get r

/-- Write an 8-bit register of the main bank. -/
def State.setReg (s : State) (r : Reg8) (v : Byte) : State := { s with main := s.main.set r v }

/-- `rp[i]` (10_state.md R24). -/
def State.pair (s : State) : Pair → Word
  | .bc => s.main.bc
  | .de => s.main.de
  | .hl => s.main.hl
  | .sp => s.sp

/-- Write `rp[i]`: both halves (00_scope.md R9). -/
def State.setPair (s : State) (p : Pair) (v : Word) : State :=
  match p with
  | .bc => { s with main := { s.main with b := wordHi v, c := wordLo v } }
  | .de => { s with main := { s.main with d := wordHi v, e := wordLo v } }
  | .hl => { s with main := { s.main with h := wordHi v, l := wordLo v } }
  | .sp => { s with sp := v }

/-- `rp2[i]` (10_state.md R24). -/
def State.pairQ (s : State) : PairQ → Word
  | .bc => s.main.bc
  | .de => s.main.de
  | .hl => s.main.hl
  | .af => s.main.af

/-- Write `rp2[i]`: both halves (00_scope.md R9). -/
def State.setPairQ (s : State) (p : PairQ) (v : Word) : State :=
  match p with
  | .bc => { s with main := { s.main with b := wordHi v, c := wordLo v } }
  | .de => { s with main := { s.main with d := wordHi v, e := wordLo v } }
  | .hl => { s with main := { s.main with h := wordHi v, l := wordLo v } }
  | .af => { s with main := { s.main with a := wordHi v, f := wordLo v } }

/-- The index register `XY` (10_state.md R22). -/
def State.idx (s : State) : Index → Word
  | .ix => s.ix
  | .iy => s.iy

/-- Write the index register `XY`. -/
def State.setIdx (s : State) (x : Index) (v : Word) : State :=
  match x with
  | .ix => { s with ix := v }
  | .iy => { s with iy := v }

/-- Which half of an index register (10_state.md R22). -/
inductive Half where
  | high
  | low
  deriving DecidableEq, Repr

/-- `XYH = XY[15:8]`, `XYL = XY[7:0]` (10_state.md R22). -/
def State.half (s : State) (x : Index) : Half → Byte
  | .high => wordHi (s.idx x)
  | .low => wordLo (s.idx x)

/-- Write one half of an index register; the other half is kept (00_scope.md R9). -/
def State.setHalf (s : State) (x : Index) (h : Half) (v : Byte) : State :=
  match h with
  | .high => s.setIdx x (mkWord v (wordLo (s.idx x)))
  | .low => s.setIdx x (mkWord (wordHi (s.idx x)) v)

/-- `EA(d) = XY + sext_16(d)`, mod 2^16 (49_index.md R462). -/
def State.indexed (s : State) (x : Index) (d : Byte) : Word := s.idx x + sext16 d

/-- The eight flags packed in `F` (10_state.md R27). -/
def State.flags (s : State) : Flags := unpackFlags s.main.f

/-- Write the eight flags into `F` (10_state.md R27). -/
def State.setFlags (s : State) (g : Flags) : State := { s with main := { s.main with f := g.pack } }

/-- A kernel's result into `A` and its flags into `F` (43_alu8.md section 1: "A is updated last"). -/
def State.setAF (s : State) (q : Byte × Flags) : State :=
  { s with main := { s.main with a := q.1, f := q.2.pack } }

/-- Write `SP`. -/
def State.setSp (s : State) (v : Word) : State := { s with sp := v }

/-- Write `PC`. -/
def State.setPc (s : State) (v : Word) : State := { s with pc := v }

/-- Write `I` (10_state.md R31). -/
def State.setI (s : State) (v : Byte) : State := { s with i := v }

/-- Write all eight bits of `R` (10_state.md R32). -/
def State.setR (s : State) (v : Byte) : State := { s with r := v }

/-- Write `IM` (10_state.md R34). -/
def State.setIm (s : State) (m : IntMode) : State := { s with im := m }

/-- `halted <- 1` (10_state.md R35). -/
def State.setHalted (s : State) : State := { s with halted := true }

/-- `pending_di <- 1` (10_state.md R36). -/
def State.setPendingDi (s : State) : State := { s with pendingDi := true }

/-- `pending_ei <- 1` (10_state.md R36). -/
def State.setPendingEi (s : State) : State := { s with pendingEi := true }

/-- `cyc += n` (10_state.md R37). -/
def State.addCyc (s : State) (n : Nat) : State := { s with cyc := s.cyc + n }

/-- `bump_r(R) = (R & 0x80) | ((R+1) & 0x7F)` (10_state.md R32). -/
def bumpByte (v : Byte) : Byte := (v &&& 0x80) ||| ((v + 1) &&& 0x7F)

/-- `R <- bump_r(R)`, `n` times (40_fetch_decode.md R131). -/
def State.bumpR (s : State) : Nat → State
  | 0 => s
  | n + 1 => State.bumpR { s with r := bumpByte s.r } n

/-- Whether condition `cc` holds of `F` (30_encoding.md R96, 46_control.md R350). -/
def State.cond (s : State) : Cond → Bool
  | .nz => !s.flags.z
  | .z => s.flags.z
  | .nc => !s.flags.c
  | .c => s.flags.c
  | .po => !s.flags.p
  | .pe => s.flags.p
  | .p => !s.flags.s
  | .m => s.flags.s

/-! ### The stack (00_scope.md R11) -/

/-- `Push16(v)`: the high byte at `SP-1`, then the low byte at `SP-2`. -/
def State.push16 (s : State) (v : Word) : State :=
  let s1 := s.setSp (s.sp - 1)
  let s2 := s1.memWrite s1.sp (wordHi v)
  let s3 := s2.setSp (s2.sp - 1)
  s3.memWrite s3.sp (wordLo v)

/-- `Pop16()`: the low byte from `SP`, then the high byte from `SP+1`. -/
def State.pop16 (s : State) : Word × State :=
  let lo := s.memRead s.sp
  let s1 := lo.2.setSp (lo.2.sp + 1)
  let hi := s1.memRead s1.sp
  (mkWord hi.1 lo.1, hi.2.setSp (hi.2.sp + 1))

/-! ### How an instruction ends (00_scope.md R13) -/

/-- `pc <- next`, `next = (a + L) mod 2^16`: `PC` still holds the instruction's own address `a`. -/
def retire (len : Word) (s : State) : Out := .next (s.setPc (s.pc + len))

/-- `pc <- target`. -/
def jump (target : Word) (s : State) : Out := .next (s.setPc target)

/-- `(a + 2 + sext_16(e)) mod 2^16` (46_control.md R351). -/
def relTarget (a : Word) (e : Byte) : Word := a + 2 + sext16 e

/-- `8 * t` (46_control.md R362). -/
def rstTarget (t : Field3) : Word := BitVec.ofNat 16 (8 * t.toNat)

/-- `Push16((a + L) mod 2^16); pc <- target` (46_control.md R358, R362). -/
def call (len target : Word) (s : State) : Out := jump target (s.push16 (s.pc + len))

/-- `pc <- Pop16()` (46_control.md R360). -/
def popPc (s : State) : Out := let m := s.pop16; jump m.1 m.2

/-! ### T-states (40_fetch_decode.md R139) -/

/-- `cycle_counts_ed`: zero exactly on the unrecognised second bytes (70_reset_and_hazards.md R597). -/
def cycleCountsEd (b1 : Byte) : Nat := if edRecognised b1 then Config.cycleCountsEdPred b1 + 1 else 0

/-- `cycle_counts_dd`: zero exactly on the unrecognised second bytes (70_reset_and_hazards.md R597). -/
def cycleCountsDd (b1 : Byte) : Nat := if xyRecognised b1 then Config.cycleCountsDdPred b1 + 1 else 0

/-- The cost a prefix handler adds, `none` for a main-plane byte (40_fetch_decode.md R133 to R137; composite plane:
49_index.md R527, its term a parameter). `b1` and `op` are the instruction's second and fourth bytes. -/
def handlerCost (p : Config.Params) (b0 b1 op : Byte) : Option Nat :=
  if b0 = 0xCB then some (Config.cycleCountsCb b1)
  else if b0 = 0xED then
    some (if edRecognised b1 then cycleCountsEd b1 else Config.cycleCountsMain 0x00)
  else if b0 = 0xDD ∨ b0 = 0xFD then
    some (if b1 = 0xCB then cycleCountsDd b1 + p.cycleCountsDdcb op
      else if xyRecognised b1 then cycleCountsDd b1
      else Config.cycleCountsMain 0x00)
  else none

/-- The base cost of the instruction with these bytes (40_fetch_decode.md R139). -/
def baseCost (p : Config.Params) (b0 b1 op : Byte) : Nat := (handlerCost p b0 b1 op).getD (Config.cycleCountsMain b0)

/-! ### The delayed commit of `EI` and `DI` -/

/-- `commit(di, ei)` (40_fetch_decode.md R138). With both set, `IFF1` and `IFF2` take the same free bit (U6; log 7). -/
def State.commit (s : State) (di ei : Bool) : State :=
  match di, ei with
  | true, false => { s with iff1 := false, iff2 := false }
  | false, true => { s with iff1 := true, iff2 := true }
  | false, false => s
  | true, true =>
    { s with
        iff1 := Config.commitBit s.freeCount
        iff2 := Config.commitBit s.freeCount
        freeCount := s.freeCount + 1 }

/-! ### The `reset` port -/

/-- `reset()`: exactly the writes of 10_state.md R48, and no other (70_reset_and_hazards.md R580, R581). -/
def resetPort (s : State) : State :=
  { s with
      sp := 0xDFF0
      pc := 0x0000
      main := { s.main with a := 0x00, f := 0x00 }
      r := 0x00
      im := .im0
      iff1 := false
      iff2 := false
      halted := false
      pendingDi := false
      pendingEi := false
      cyc := 0 }

/-! ### Taking an interrupt and returning from one -/

/-- What every acceptance begins with: `R <- bump_r(R); halted <- 0` (60_exceptions.md R544, R545). -/
def acceptBegin (s : State) : State := { s.bumpR 1 with halted := false }

/-- What every vectored acceptance ends with: push `PC`, go to the handler, add the cost (60_exceptions.md R544, R547). -/
def enterHandler (target : Word) (cost : Nat) (s : State) : State :=
  ((s.push16 s.pc).setPc target).addCyc cost

/-- NMI acceptance (60_exceptions.md R544): `IFF2 <- IFF1; IFF1 <- 0`; handler at `0x0066`, 11 T-states. -/
def acceptNmi (s : State) : State :=
  let s1 := acceptBegin s
  enterHandler 0x0066 11 { s1 with iff2 := s1.iff1, iff1 := false }

/-- The common part of a maskable acceptance: `IFF1 <- 0; IFF2 <- 0` (60_exceptions.md R545). -/
def acceptMaskable (s : State) : State := { acceptBegin s with iff1 := false, iff2 := false }

/-- Mode 1: handler at `0x0038`, 13 T-states (60_exceptions.md R547). -/
def enterMode1 (s : State) : State := enterHandler 0x0038 13 s

/-- Mode 2: push `PC`, then read the 16-bit vector at `(I << 8) | data`; 19 T-states (60_exceptions.md R548). -/
def enterMode2 (data : Byte) (s : State) : State :=
  let m := (s.push16 s.pc).memRead16 (mkWord s.i data)
  (m.2.setPc m.1).addCyc 19

/-- Return from an interrupt handler: `pc <- Pop16()`, and `IFF1 <- IFF2` if `restore` (`RETN`, 47_io_system.md R408;
`RETI` restores nothing, R407). -/
def returnFromInt (restore : Bool) (s : State) : Out :=
  let m := s.pop16
  jump m.1 { m.2 with iff1 := if restore then m.2.iff2 else m.2.iff1 }

end Sys2Proof.Machine
end

