-- ==== Sys2Proof/Machine/Operands.lean ====
section
/-! DEFINITION. The operand forms the families share: each names the operand once (a register, the byte at an effective
address, a port) and applies a kernel of Flags.lean to it, with the bus operations in the order of its rule. -/

namespace Sys2Proof.Machine

/-- `r8[y] <- MemRead(ea, 1)` (41_load8.md R151, R155 to R157; 49_index.md R480). -/
def loadReg (r : Reg8) (ea : Word) (s : State) : State :=
  let m := s.memRead ea
  m.2.setReg r m.1

/-- The eight accumulator operations, in the order of 30_encoding.md R95. -/
inductive AluOp where
  | add
  | adc
  | sub
  | sbc
  | and
  | xor
  | or
  | cp
  deriving DecidableEq, Repr

/-- The accumulator operation on operand byte `x` (43_alu8.md section 2). -/
def aluA (op : AluOp) (x : Byte) (s : State) : State :=
  match op with
  | .add => s.setAF (add8 s.main.a x false)
  | .adc => s.setAF (add8 s.main.a x s.flags.c)
  | .sub => s.setAF (sub8 s.main.a x false)
  | .sbc => s.setAF (sub8 s.main.a x s.flags.c)
  | .and => s.setAF (and8 s.main.a x)
  | .xor => s.setAF (xor8 s.main.a x)
  | .or => s.setAF (or8 s.main.a x)
  | .cp => s.setFlags (cp8 s.main.a x)

/-- The accumulator operation on the memory byte at `ea` (43_alu8.md section 2; 49_index.md R485 to R492). -/
def aluMem (op : AluOp) (ea : Word) (s : State) : State :=
  let m := s.memRead ea
  aluA op m.1 m.2

/-- One read then one write of the byte at `ea` through a kernel that sets flags: `INC`, `DEC` (43_alu8.md R264, R266). -/
def updateMem (k : Byte → Flags → Byte × Flags) (ea : Word) (s : State) : State :=
  let m := s.memRead ea
  let q := k m.1 s.flags
  (m.2.memWrite ea q.1).setFlags q.2

/-- `INC`/`DEC` of one half of an index register (49_index.md R495 to R498). -/
def updateHalf (k : Byte → Flags → Byte × Flags) (x : Index) (h : Half) (s : State) : State :=
  let q := k (s.half x h) s.flags
  (s.setHalf x h q.1).setFlags q.2

/-- `XY <- ADD16(XY, pp)`, `pp = 2` naming `XY` itself (49_index.md R471). -/
def addIndex (x : Index) (pp : PairX) (s : State) : State :=
  let operand := match pp with
    | .bc => s.main.bc
    | .de => s.main.de
    | .xy => s.idx x
    | .sp => s.sp
  let q := add16 (s.idx x) operand s.flags
  (s.setIdx x q.1).setFlags q.2

/-- The register copy of the composite plane, if the encoding names one (49_index.md R520, R522, R526). -/
def copyTo (copy : Option Reg8) (v : Byte) (s : State) : State :=
  match copy with
  | none => s
  | some r => s.setReg r v

/-- CB-plane shift or rotate of a register (45_rotate_shift_bit.md section 2). -/
def shiftReg (k : ShiftKind) (r : Reg8) (s : State) : State :=
  let q := shift k (s.reg r) s.flags.c
  (s.setReg r q.1).setFlags (shiftFlags q.1 q.2)

/-- Shift or rotate of the byte at `ea`: read, write, flags, then the copy (45_rotate_shift_bit.md section 2; 49_index.md
R521, R522; D9). -/
def shiftMem (k : ShiftKind) (ea : Word) (copy : Option Reg8) (s : State) : State :=
  let m := s.memRead ea
  let q := shift k m.1 s.flags.c
  copyTo copy q.1 ((m.2.memWrite ea q.1).setFlags (shiftFlags q.1 q.2))

/-- Accumulator rotate (45_rotate_shift_bit.md R320 to R323). -/
def rotateA (k : ShiftKind) (s : State) : State :=
  let q := shift k s.main.a s.flags.c
  (s.setReg .a q.1).setFlags (rotateAFlags q.1 q.2 s.flags)

/-- `BIT` on the byte at `ea`: one read, no write (45_rotate_shift_bit.md R325; 49_index.md R523). -/
def bitTestMem (n : Field3) (ea : Word) (s : State) : State :=
  let m := s.memRead ea
  m.2.setFlags (bitTest n m.1 s.flags)

/-- `RES`/`SET` on the byte at `ea`: one read, one write even if nothing changes, then the copy; no flag
(45_rotate_shift_bit.md R327, R329; 49_index.md R524 to R526). -/
def modifyMem (f : Byte → Byte) (ea : Word) (copy : Option Reg8) (s : State) : State :=
  let m := s.memRead ea
  copyTo copy (f m.1) (m.2.memWrite ea (f m.1))

/-- `RLD`/`RRD` (45_rotate_shift_bit.md R330, R331): read `(HL)`, write `(HL)`, then `A` and the flags from the new `A`. -/
def nibbleRotate (f : Byte → Byte → Byte × Byte) (s : State) : State :=
  let m := s.memRead s.main.hl
  let q := f s.main.a m.1
  ((m.2.memWrite s.main.hl q.1).setReg .a q.2).setFlags (inFlags q.2 s.flags)

/-- `A` from `I` or `R`, with `IFF2` in `P` (47_io_system.md R400, R401). -/
def loadASpecial (v : Byte) (s : State) : State :=
  (s.setReg .a v).setFlags (specialFlags v s.iff2 s.flags)

/-- The exchange of a 16-bit register `v` with the word on top of the stack: reads low, high; writes high at `SP+1`, low at
`SP`; answers the word read (42_load16_stack_exchange.md R211; 49_index.md R469; D9). -/
def exchangeTop (v : Word) (s : State) : Word × State :=
  let m := s.memRead16 s.sp
  (m.1, (m.2.memWrite (s.sp + 1) (wordHi v)).memWrite s.sp (wordLo v))

/-- `A <-> A'`, `F <-> F'` (42_load16_stack_exchange.md R214). -/
def exchangeAf (s : State) : State :=
  { s with
      main := { s.main with a := s.shadow.a, f := s.shadow.f }
      shadow := { s.shadow with a := s.main.a, f := s.main.f } }

/-- `B C D E H L <-> B' C' D' E' H' L'` (42_load16_stack_exchange.md R215). -/
def exchangeBanks (s : State) : State :=
  { s with
      main := { s.shadow with a := s.main.a, f := s.main.f }
      shadow := { s.main with a := s.shadow.a, f := s.shadow.f } }

/-- The body of `LDI` (`delta = 1`) and `LDD` (`delta = -1`) (48_block.md R431, R432). -/
def blockLoad (delta : Word) (s : State) : State :=
  let m := s.memRead s.main.hl
  let s1 := m.2.memWrite s.main.de m.1
  let s2 := ((s1.setPair .de (s.main.de + delta)).setPair .hl (s.main.hl + delta)).setPair .bc (s.main.bc - 1)
  s2.setFlags (blockLoadFlags s.main.a m.1 (s2.main.bc != 0) s.flags)

/-- The body of `CPI` (`delta = 1`) and `CPD` (`delta = -1`) (48_block.md R435, R436). -/
def blockCompare (delta : Word) (s : State) : State :=
  let m := s.memRead s.main.hl
  let s1 := (m.2.setPair .hl (s.main.hl + delta)).setPair .bc (s.main.bc - 1)
  s1.setFlags (blockCompareFlags s.main.a m.1 (s1.main.bc != 0) s.flags)

/-- `B <- DEC8(B)`, `HL <- HL + delta`, `F.N <- 1`: what the block I/O bodies share (48_block.md R439; D16). -/
def blockIoEnd (delta : Word) (s : State) : State :=
  let q := dec8 s.main.b s.flags
  ((s.setReg .b q.1).setPair .hl (s.main.hl + delta)).setFlags { q.2 with n := true }

/-- The body of `INI` and `IND`: the port is `BC` before the decrement (48_block.md R439, R440; D16). -/
def blockIn (delta : Word) (s : State) : State :=
  let m := s.ioRead s.main.bc
  blockIoEnd delta (m.2.memWrite s.main.hl m.1)

/-- The body of `OUTI` and `OUTD`: the port is `BC` before the decrement (48_block.md R443, R444; D16). -/
def blockOut (delta : Word) (s : State) : State :=
  let m := s.memRead s.main.hl
  blockIoEnd delta (m.2.ioWrite s.main.bc m.1)

/-- The terminating condition of the repeating block I/O instructions, after the body (48_block.md R441; D13). -/
def ioBlockDone (s : State) : Bool :=
  if s.params.ioBlockRepeatOnBc then s.main.bc == 0 else s.main.b == 0

/-- The repeat mechanism after a body (48_block.md R447): retire, or stay at `a` and add 5 T-states. -/
def repeatUnless (done : Bool) (s : State) : Out :=
  if done then retire 2 s else jump s.pc (s.addCyc 5)

end Sys2Proof.Machine
end

