-- ==== Sys2Proof/Machine/Alu16.lean ====
section
/-! DEFINITION. The 16-bit arithmetic group (44_alu16.md). One meaning per instruction, over the shared operations of Ops.lean
and Operands.lean. -/

namespace Sys2Proof.Machine

/-- `ADD HL,ss` (R284). -/
def execAddHlSs (ss : Pair) (s : State) : Out :=
  let q := add16 s.main.hl (s.pair ss) s.flags
  retire 1 ((s.setPair .hl q.1).setFlags q.2)

/-- `INC ss` (R287). -/
def execIncSs (ss : Pair) (s : State) : Out := retire 1 (s.setPair ss (s.pair ss + 1))

/-- `DEC ss` (R288). -/
def execDecSs (ss : Pair) (s : State) : Out := retire 1 (s.setPair ss (s.pair ss - 1))

/-- `SBC HL,ss` (R286). -/
def execSbcHlSs (ss : Pair) (s : State) : Out :=
  let q := sbc16 s.main.hl (s.pair ss) s.flags.c
  retire 2 ((s.setPair .hl q.1).setFlags q.2)

/-- `ADC HL,ss` (R285). -/
def execAdcHlSs (ss : Pair) (s : State) : Out :=
  let q := adc16 s.main.hl (s.pair ss) s.flags.c
  retire 2 ((s.setPair .hl q.1).setFlags q.2)

end Sys2Proof.Machine
end

