-- ==== Sys2Proof/Machine/Alu8.lean ====
section
/-! DEFINITION. The 8-bit arithmetic and logic group (43_alu8.md). One meaning per instruction, over the shared operations of Ops.lean
and Operands.lean. -/

namespace Sys2Proof.Machine

/-- `INC r` (R263). -/
def execIncR (r : Reg8) (s : State) : Out :=
  let q := inc8 (s.reg r) s.flags
  retire 1 ((s.setReg r q.1).setFlags q.2)

/-- `INC (HL)` (R264). -/
def execIncIndHl (s : State) : Out := retire 1 (updateMem inc8 s.main.hl s)

/-- `DEC r` (R265). -/
def execDecR (r : Reg8) (s : State) : Out :=
  let q := dec8 (s.reg r) s.flags
  retire 1 ((s.setReg r q.1).setFlags q.2)

/-- `DEC (HL)` (R266). -/
def execDecIndHl (s : State) : Out := retire 1 (updateMem dec8 s.main.hl s)

/-- `DAA` (R267). -/
def execDaa (s : State) : Out :=
  let q := daa8 s.main.a s.flags
  retire 1 (s.setAF q)

/-- `CPL` (R268). -/
def execCpl (s : State) : Out := retire 1 (s.setAF (cplA s.main.a s.flags))

/-- `SCF` (R270). -/
def execScf (s : State) : Out := retire 1 (s.setFlags (scfFlags s.main.a s.flags))

/-- `CCF` (R271). -/
def execCcf (s : State) : Out := retire 1 (s.setFlags (ccfFlags s.main.a s.flags))

/-- `ADD A,r` (R239). -/
def execAddAR (r : Reg8) (s : State) : Out := retire 1 (aluA .add (s.reg r) s)

/-- `ADD A,(HL)` (R240). -/
def execAddAIndHl (s : State) : Out := retire 1 (aluMem .add s.main.hl s)

/-- `ADD A,n` (R241). -/
def execAddAN (n : Byte) (s : State) : Out := retire 2 (aluA .add n s)

/-- `ADC A,r` (R242). -/
def execAdcAR (r : Reg8) (s : State) : Out := retire 1 (aluA .adc (s.reg r) s)

/-- `ADC A,(HL)` (R243). -/
def execAdcAIndHl (s : State) : Out := retire 1 (aluMem .adc s.main.hl s)

/-- `ADC A,n` (R244). -/
def execAdcAN (n : Byte) (s : State) : Out := retire 2 (aluA .adc n s)

/-- `SUB r` (R245). -/
def execSubR (r : Reg8) (s : State) : Out := retire 1 (aluA .sub (s.reg r) s)

/-- `SUB (HL)` (R246). -/
def execSubIndHl (s : State) : Out := retire 1 (aluMem .sub s.main.hl s)

/-- `SUB n` (R247). -/
def execSubN (n : Byte) (s : State) : Out := retire 2 (aluA .sub n s)

/-- `SBC A,r` (R248). -/
def execSbcAR (r : Reg8) (s : State) : Out := retire 1 (aluA .sbc (s.reg r) s)

/-- `SBC A,(HL)` (R249). -/
def execSbcAIndHl (s : State) : Out := retire 1 (aluMem .sbc s.main.hl s)

/-- `SBC A,n` (R250). -/
def execSbcAN (n : Byte) (s : State) : Out := retire 2 (aluA .sbc n s)

/-- `AND r` (R251). -/
def execAndR (r : Reg8) (s : State) : Out := retire 1 (aluA .and (s.reg r) s)

/-- `AND (HL)` (R252). -/
def execAndIndHl (s : State) : Out := retire 1 (aluMem .and s.main.hl s)

/-- `AND n` (R253). -/
def execAndN (n : Byte) (s : State) : Out := retire 2 (aluA .and n s)

/-- `XOR r` (R254). -/
def execXorR (r : Reg8) (s : State) : Out := retire 1 (aluA .xor (s.reg r) s)

/-- `XOR (HL)` (R255). -/
def execXorIndHl (s : State) : Out := retire 1 (aluMem .xor s.main.hl s)

/-- `XOR n` (R256). -/
def execXorN (n : Byte) (s : State) : Out := retire 2 (aluA .xor n s)

/-- `OR r` (R257). -/
def execOrR (r : Reg8) (s : State) : Out := retire 1 (aluA .or (s.reg r) s)

/-- `OR (HL)` (R258). -/
def execOrIndHl (s : State) : Out := retire 1 (aluMem .or s.main.hl s)

/-- `OR n` (R259). -/
def execOrN (n : Byte) (s : State) : Out := retire 2 (aluA .or n s)

/-- `CP r` (R260). -/
def execCpR (r : Reg8) (s : State) : Out := retire 1 (aluA .cp (s.reg r) s)

/-- `CP (HL)` (R261). -/
def execCpIndHl (s : State) : Out := retire 1 (aluMem .cp s.main.hl s)

/-- `CP n` (R262). -/
def execCpN (n : Byte) (s : State) : Out := retire 2 (aluA .cp n s)

/-- `NEG` (R269). -/
def execNeg (s : State) : Out := retire 2 (s.setAF (sub8 0 s.main.a false))

end Sys2Proof.Machine
end

