-- ==== Sys2Proof/Machine/Block.lean ====
section
/-! DEFINITION. Block transfer, search and I/O: one iteration a step (48_block.md). One meaning per instruction, over the shared operations of Ops.lean
and Operands.lean. -/

namespace Sys2Proof.Machine

/-- `LDI` (R431). -/
def execLdi (s : State) : Out := retire 2 (blockLoad 1 s)

/-- `LDD` (R432). -/
def execLdd (s : State) : Out := retire 2 (blockLoad (-1) s)

/-- `LDIR` (R433). -/
def execLdir (s : State) : Out :=
  let s1 := blockLoad 1 s
  repeatUnless (s1.main.bc == 0) s1

/-- `LDDR` (R434). -/
def execLddr (s : State) : Out :=
  let s1 := blockLoad (-1) s
  repeatUnless (s1.main.bc == 0) s1

/-- `CPI` (R435). -/
def execCpi (s : State) : Out := retire 2 (blockCompare 1 s)

/-- `CPD` (R436). -/
def execCpd (s : State) : Out := retire 2 (blockCompare (-1) s)

/-- `CPIR` (R437). -/
def execCpir (s : State) : Out :=
  let s1 := blockCompare 1 s
  repeatUnless (s1.main.bc == 0 || s1.flags.z) s1

/-- `CPDR` (R438). -/
def execCpdr (s : State) : Out :=
  let s1 := blockCompare (-1) s
  repeatUnless (s1.main.bc == 0 || s1.flags.z) s1

/-- `INI` (R439). -/
def execIni (s : State) : Out := retire 2 (blockIn 1 s)

/-- `IND` (R440). -/
def execInd (s : State) : Out := retire 2 (blockIn (-1) s)

/-- `INIR` (R441). -/
def execInir (s : State) : Out :=
  let s1 := blockIn 1 s
  repeatUnless (ioBlockDone s1) s1

/-- `INDR` (R442). -/
def execIndr (s : State) : Out :=
  let s1 := blockIn (-1) s
  repeatUnless (ioBlockDone s1) s1

/-- `OUTI` (R443). -/
def execOuti (s : State) : Out := retire 2 (blockOut 1 s)

/-- `OUTD` (R444). -/
def execOutd (s : State) : Out := retire 2 (blockOut (-1) s)

/-- `OTIR` (R445). -/
def execOtir (s : State) : Out :=
  let s1 := blockOut 1 s
  repeatUnless (ioBlockDone s1) s1

/-- `OTDR` (R446). -/
def execOtdr (s : State) : Out :=
  let s1 := blockOut (-1) s
  repeatUnless (ioBlockDone s1) s1

end Sys2Proof.Machine
end

