-- ==== Sys2Proof/Machine/Control.lean ====
section
/-! DEFINITION. Jumps, calls, returns and restarts (46_control.md). One meaning per instruction, over the shared operations of Ops.lean
and Operands.lean. -/

namespace Sys2Proof.Machine

/-- `DJNZ e` (R357). -/
def execDjnz (e : Byte) (s : State) : Out :=
  let s1 := s.setReg .b (s.main.b - 1)
  if s1.main.b != 0 then jump (relTarget s.pc e) (s1.addCyc 5) else retire 2 s1

/-- `JR e` (R354). -/
def execJr (e : Byte) (s : State) : Out := jump (relTarget s.pc e) s

/-- `JR cc,e` (R355). -/
def execJrCc (cc : Cond) (e : Byte) (s : State) : Out :=
  if s.cond cc then jump (relTarget s.pc e) (s.addCyc 5) else retire 2 s

/-- `RET cc` (R361). -/
def execRetCc (cc : Cond) (s : State) : Out := if s.cond cc then popPc (s.addCyc 6) else retire 1 s

/-- `RET` (R360). -/
def execRet (s : State) : Out := popPc s

/-- `JP (HL)` (R356). -/
def execJpIndHl (s : State) : Out := jump s.main.hl s

/-- `JP cc,nn` (R353). -/
def execJpCcNn (cc : Cond) (nn : Word) (s : State) : Out :=
  if s.cond cc then jump nn s else retire 3 s

/-- `JP nn` (R352). -/
def execJpNn (nn : Word) (s : State) : Out := jump nn s

/-- `CALL cc,nn` (R359). -/
def execCallCcNn (cc : Cond) (nn : Word) (s : State) : Out :=
  if s.cond cc then call 3 nn (s.addCyc 7) else retire 3 s

/-- `CALL nn` (R358). -/
def execCallNn (nn : Word) (s : State) : Out := call 3 nn s

/-- `RST p` (R362). -/
def execRstP (t : Field3) (s : State) : Out := call 1 (rstTarget t) s

end Sys2Proof.Machine
end

