-- ==== Sys2Proof/Machine/Degenerate.lean ====
section
/-! DEFINITION. The degenerate encodings that have a defined behaviour: an unrecognised ED second byte, and a DD or FD prefix before an
unrecognised byte (40_fetch_decode.md R135, R136). One meaning per instruction, over the shared operations of Ops.lean
and Operands.lean. -/

namespace Sys2Proof.Machine

/-- `(unrecognised ED 00..3F: two-byte no-operation)` (R135). -/
def execEdNop00 (s : State) : Out := retire 2 s

/-- `(unrecognised ED 77: two-byte no-operation)` (R135). -/
def execEdNop77 (s : State) : Out := retire 2 s

/-- `(unrecognised ED 7F: two-byte no-operation)` (R135). -/
def execEdNop7F (s : State) : Out := retire 2 s

/-- `(unrecognised ED 80..9F: two-byte no-operation)` (R135). -/
def execEdNop80 (s : State) : Out := retire 2 s

/-- `(unrecognised ED A4..A7, AC..AF, B4..B7, BC..BF: two-byte no-operation)` (R135). -/
def execEdNopA4 (s : State) : Out := retire 2 s

/-- `(unrecognised ED C0..FF: two-byte no-operation)` (R135). -/
def execEdNopC0 (s : State) : Out := retire 2 s

/-- `(lone DD prefix: one-byte no-operation)` (R136). -/
def execLoneDd (s : State) : Out := retire 1 s

/-- `(lone FD prefix: one-byte no-operation)` (R136). -/
def execLoneFd (s : State) : Out := retire 1 s

end Sys2Proof.Machine
end

