-- ==== Sys2Proof/Machine/Index.lean ====
section
/-! DEFINITION. The DD/FD plane: loads, stack, arithmetic and logic on `IX`, `IY`, their halves and the bytes they index (49_index.md
sections 1 to 3). One meaning per instruction, over the shared operations of Ops.lean
and Operands.lean. -/

namespace Sys2Proof.Machine

/-- `ADD IX,pp` (R471). -/
def execAddIxPp (pp : PairX) (s : State) : Out := retire 2 (addIndex .ix pp s)

/-- `LD IX,nn` (R463). -/
def execLdIxNn (nn : Word) (s : State) : Out := retire 4 (s.setIdx .ix nn)

/-- `LD (nn),IX` (R464). -/
def execLdIndNnIx (nn : Word) (s : State) : Out := retire 4 (s.memWrite16 nn s.ix)

/-- `LD IX,(nn)` (R465). -/
def execLdIxIndNn (nn : Word) (s : State) : Out :=
  let m := s.memRead16 nn
  retire 4 (m.2.setIdx .ix m.1)

/-- `INC IX` (R472). -/
def execIncIx (s : State) : Out := retire 2 (s.setIdx .ix (s.ix + 1))

/-- `DEC IX` (R473). -/
def execDecIx (s : State) : Out := retire 2 (s.setIdx .ix (s.ix - 1))

/-- `INC IXH` (R495). -/
def execIncIxh (s : State) : Out := retire 2 (updateHalf inc8 .ix .high s)

/-- `INC IXL` (R496). -/
def execIncIxl (s : State) : Out := retire 2 (updateHalf inc8 .ix .low s)

/-- `DEC IXH` (R497). -/
def execDecIxh (s : State) : Out := retire 2 (updateHalf dec8 .ix .high s)

/-- `DEC IXL` (R498). -/
def execDecIxl (s : State) : Out := retire 2 (updateHalf dec8 .ix .low s)

/-- `LD IXH,n` (R499). -/
def execLdIxhN (n : Byte) (s : State) : Out := retire 3 (s.setHalf .ix .high n)

/-- `LD IXL,n` (R500). -/
def execLdIxlN (n : Byte) (s : State) : Out := retire 3 (s.setHalf .ix .low n)

/-- `INC (IX+d)` (R483). -/
def execIncIndIxd (d : Byte) (s : State) : Out := retire 3 (updateMem inc8 (s.indexed .ix d) s)

/-- `DEC (IX+d)` (R484). -/
def execDecIndIxd (d : Byte) (s : State) : Out := retire 3 (updateMem dec8 (s.indexed .ix d) s)

/-- `LD (IX+d),n` (R482). -/
def execLdIndIxdN (d : Byte) (n : Byte) (s : State) : Out :=
  retire 4 (s.memWrite (s.indexed .ix d) n)

/-- `LD r,(IX+d)` (R480). -/
def execLdRIndIxd (r : Reg8) (d : Byte) (s : State) : Out := retire 3 (loadReg r (s.indexed .ix d) s)

/-- `LD (IX+d),r` (R481). -/
def execLdIndIxdR (d : Byte) (r : Reg8) (s : State) : Out :=
  retire 3 (s.memWrite (s.indexed .ix d) (s.reg r))

/-- `LD r,IXH` (R501). -/
def execLdRIxh (r : Reg8) (s : State) : Out := retire 2 (s.setReg r (s.half .ix .high))

/-- `LD r,IXL` (R502). -/
def execLdRIxl (r : Reg8) (s : State) : Out := retire 2 (s.setReg r (s.half .ix .low))

/-- `LD IXH,r` (R503). -/
def execLdIxhR (r : Reg8) (s : State) : Out := retire 2 (s.setHalf .ix .high (s.reg r))

/-- `LD IXL,r` (R504). -/
def execLdIxlR (r : Reg8) (s : State) : Out := retire 2 (s.setHalf .ix .low (s.reg r))

/-- `LD IXH,IXH` (R505). -/
def execLdIxhIxh (s : State) : Out := retire 2 (s.setHalf .ix .high (s.half .ix .high))

/-- `LD IXH,IXL` (R505). -/
def execLdIxhIxl (s : State) : Out := retire 2 (s.setHalf .ix .high (s.half .ix .low))

/-- `LD IXL,IXH` (R505). -/
def execLdIxlIxh (s : State) : Out := retire 2 (s.setHalf .ix .low (s.half .ix .high))

/-- `LD IXL,IXL` (R505). -/
def execLdIxlIxl (s : State) : Out := retire 2 (s.setHalf .ix .low (s.half .ix .low))

/-- `ADD A,IXH` (R506). -/
def execAddAIxh (s : State) : Out := retire 2 (aluA .add (s.half .ix .high) s)

/-- `ADD A,IXL` (R506). -/
def execAddAIxl (s : State) : Out := retire 2 (aluA .add (s.half .ix .low) s)

/-- `ADD A,(IX+d)` (R485). -/
def execAddAIndIxd (d : Byte) (s : State) : Out := retire 3 (aluMem .add (s.indexed .ix d) s)

/-- `ADC A,IXH` (R507). -/
def execAdcAIxh (s : State) : Out := retire 2 (aluA .adc (s.half .ix .high) s)

/-- `ADC A,IXL` (R507). -/
def execAdcAIxl (s : State) : Out := retire 2 (aluA .adc (s.half .ix .low) s)

/-- `ADC A,(IX+d)` (R486). -/
def execAdcAIndIxd (d : Byte) (s : State) : Out := retire 3 (aluMem .adc (s.indexed .ix d) s)

/-- `SUB IXH` (R508). -/
def execSubIxh (s : State) : Out := retire 2 (aluA .sub (s.half .ix .high) s)

/-- `SUB IXL` (R508). -/
def execSubIxl (s : State) : Out := retire 2 (aluA .sub (s.half .ix .low) s)

/-- `SUB (IX+d)` (R487). -/
def execSubIndIxd (d : Byte) (s : State) : Out := retire 3 (aluMem .sub (s.indexed .ix d) s)

/-- `SBC A,IXH` (R509). -/
def execSbcAIxh (s : State) : Out := retire 2 (aluA .sbc (s.half .ix .high) s)

/-- `SBC A,IXL` (R509). -/
def execSbcAIxl (s : State) : Out := retire 2 (aluA .sbc (s.half .ix .low) s)

/-- `SBC A,(IX+d)` (R488). -/
def execSbcAIndIxd (d : Byte) (s : State) : Out := retire 3 (aluMem .sbc (s.indexed .ix d) s)

/-- `AND IXH` (R510). -/
def execAndIxh (s : State) : Out := retire 2 (aluA .and (s.half .ix .high) s)

/-- `AND IXL` (R510). -/
def execAndIxl (s : State) : Out := retire 2 (aluA .and (s.half .ix .low) s)

/-- `AND (IX+d)` (R489). -/
def execAndIndIxd (d : Byte) (s : State) : Out := retire 3 (aluMem .and (s.indexed .ix d) s)

/-- `XOR IXH` (R511). -/
def execXorIxh (s : State) : Out := retire 2 (aluA .xor (s.half .ix .high) s)

/-- `XOR IXL` (R511). -/
def execXorIxl (s : State) : Out := retire 2 (aluA .xor (s.half .ix .low) s)

/-- `XOR (IX+d)` (R490). -/
def execXorIndIxd (d : Byte) (s : State) : Out := retire 3 (aluMem .xor (s.indexed .ix d) s)

/-- `OR IXH` (R512). -/
def execOrIxh (s : State) : Out := retire 2 (aluA .or (s.half .ix .high) s)

/-- `OR IXL` (R512). -/
def execOrIxl (s : State) : Out := retire 2 (aluA .or (s.half .ix .low) s)

/-- `OR (IX+d)` (R491). -/
def execOrIndIxd (d : Byte) (s : State) : Out := retire 3 (aluMem .or (s.indexed .ix d) s)

/-- `CP IXH` (R513). -/
def execCpIxh (s : State) : Out := retire 2 (aluA .cp (s.half .ix .high) s)

/-- `CP IXL` (R513). -/
def execCpIxl (s : State) : Out := retire 2 (aluA .cp (s.half .ix .low) s)

/-- `CP (IX+d)` (R492). -/
def execCpIndIxd (d : Byte) (s : State) : Out := retire 3 (aluMem .cp (s.indexed .ix d) s)

/-- `POP IX` (R468). -/
def execPopIx (s : State) : Out :=
  let m := s.pop16
  retire 2 (m.2.setIdx .ix m.1)

/-- `EX (SP),IX` (R469). -/
def execExIndSpIx (s : State) : Out :=
  let m := exchangeTop s.ix s
  retire 2 (m.2.setIdx .ix m.1)

/-- `PUSH IX` (R467). -/
def execPushIx (s : State) : Out := retire 2 (s.push16 s.ix)

/-- `JP (IX)` (R470). -/
def execJpIndIx (s : State) : Out := jump s.ix s

/-- `LD SP,IX` (R466). -/
def execLdSpIx (s : State) : Out := retire 2 (s.setSp s.ix)

/-- `ADD IY,pp` (R471). -/
def execAddIyPp (pp : PairX) (s : State) : Out := retire 2 (addIndex .iy pp s)

/-- `LD IY,nn` (R463). -/
def execLdIyNn (nn : Word) (s : State) : Out := retire 4 (s.setIdx .iy nn)

/-- `LD (nn),IY` (R464). -/
def execLdIndNnIy (nn : Word) (s : State) : Out := retire 4 (s.memWrite16 nn s.iy)

/-- `LD IY,(nn)` (R465). -/
def execLdIyIndNn (nn : Word) (s : State) : Out :=
  let m := s.memRead16 nn
  retire 4 (m.2.setIdx .iy m.1)

/-- `INC IY` (R472). -/
def execIncIy (s : State) : Out := retire 2 (s.setIdx .iy (s.iy + 1))

/-- `DEC IY` (R473). -/
def execDecIy (s : State) : Out := retire 2 (s.setIdx .iy (s.iy - 1))

/-- `INC IYH` (R495). -/
def execIncIyh (s : State) : Out := retire 2 (updateHalf inc8 .iy .high s)

/-- `INC IYL` (R496). -/
def execIncIyl (s : State) : Out := retire 2 (updateHalf inc8 .iy .low s)

/-- `DEC IYH` (R497). -/
def execDecIyh (s : State) : Out := retire 2 (updateHalf dec8 .iy .high s)

/-- `DEC IYL` (R498). -/
def execDecIyl (s : State) : Out := retire 2 (updateHalf dec8 .iy .low s)

/-- `LD IYH,n` (R499). -/
def execLdIyhN (n : Byte) (s : State) : Out := retire 3 (s.setHalf .iy .high n)

/-- `LD IYL,n` (R500). -/
def execLdIylN (n : Byte) (s : State) : Out := retire 3 (s.setHalf .iy .low n)

/-- `INC (IY+d)` (R483). -/
def execIncIndIyd (d : Byte) (s : State) : Out := retire 3 (updateMem inc8 (s.indexed .iy d) s)

/-- `DEC (IY+d)` (R484). -/
def execDecIndIyd (d : Byte) (s : State) : Out := retire 3 (updateMem dec8 (s.indexed .iy d) s)

/-- `LD (IY+d),n` (R482). -/
def execLdIndIydN (d : Byte) (n : Byte) (s : State) : Out :=
  retire 4 (s.memWrite (s.indexed .iy d) n)

/-- `LD r,(IY+d)` (R480). -/
def execLdRIndIyd (r : Reg8) (d : Byte) (s : State) : Out := retire 3 (loadReg r (s.indexed .iy d) s)

/-- `LD (IY+d),r` (R481). -/
def execLdIndIydR (d : Byte) (r : Reg8) (s : State) : Out :=
  retire 3 (s.memWrite (s.indexed .iy d) (s.reg r))

/-- `LD r,IYH` (R501). -/
def execLdRIyh (r : Reg8) (s : State) : Out := retire 2 (s.setReg r (s.half .iy .high))

/-- `LD r,IYL` (R502). -/
def execLdRIyl (r : Reg8) (s : State) : Out := retire 2 (s.setReg r (s.half .iy .low))

/-- `LD IYH,r` (R503). -/
def execLdIyhR (r : Reg8) (s : State) : Out := retire 2 (s.setHalf .iy .high (s.reg r))

/-- `LD IYL,r` (R504). -/
def execLdIylR (r : Reg8) (s : State) : Out := retire 2 (s.setHalf .iy .low (s.reg r))

/-- `LD IYH,IYH` (R505). -/
def execLdIyhIyh (s : State) : Out := retire 2 (s.setHalf .iy .high (s.half .iy .high))

/-- `LD IYH,IYL` (R505). -/
def execLdIyhIyl (s : State) : Out := retire 2 (s.setHalf .iy .high (s.half .iy .low))

/-- `LD IYL,IYH` (R505). -/
def execLdIylIyh (s : State) : Out := retire 2 (s.setHalf .iy .low (s.half .iy .high))

/-- `LD IYL,IYL` (R505). -/
def execLdIylIyl (s : State) : Out := retire 2 (s.setHalf .iy .low (s.half .iy .low))

/-- `ADD A,IYH` (R506). -/
def execAddAIyh (s : State) : Out := retire 2 (aluA .add (s.half .iy .high) s)

/-- `ADD A,IYL` (R506). -/
def execAddAIyl (s : State) : Out := retire 2 (aluA .add (s.half .iy .low) s)

/-- `ADD A,(IY+d)` (R485). -/
def execAddAIndIyd (d : Byte) (s : State) : Out := retire 3 (aluMem .add (s.indexed .iy d) s)

/-- `ADC A,IYH` (R507). -/
def execAdcAIyh (s : State) : Out := retire 2 (aluA .adc (s.half .iy .high) s)

/-- `ADC A,IYL` (R507). -/
def execAdcAIyl (s : State) : Out := retire 2 (aluA .adc (s.half .iy .low) s)

/-- `ADC A,(IY+d)` (R486). -/
def execAdcAIndIyd (d : Byte) (s : State) : Out := retire 3 (aluMem .adc (s.indexed .iy d) s)

/-- `SUB IYH` (R508). -/
def execSubIyh (s : State) : Out := retire 2 (aluA .sub (s.half .iy .high) s)

/-- `SUB IYL` (R508). -/
def execSubIyl (s : State) : Out := retire 2 (aluA .sub (s.half .iy .low) s)

/-- `SUB (IY+d)` (R487). -/
def execSubIndIyd (d : Byte) (s : State) : Out := retire 3 (aluMem .sub (s.indexed .iy d) s)

/-- `SBC A,IYH` (R509). -/
def execSbcAIyh (s : State) : Out := retire 2 (aluA .sbc (s.half .iy .high) s)

/-- `SBC A,IYL` (R509). -/
def execSbcAIyl (s : State) : Out := retire 2 (aluA .sbc (s.half .iy .low) s)

/-- `SBC A,(IY+d)` (R488). -/
def execSbcAIndIyd (d : Byte) (s : State) : Out := retire 3 (aluMem .sbc (s.indexed .iy d) s)

/-- `AND IYH` (R510). -/
def execAndIyh (s : State) : Out := retire 2 (aluA .and (s.half .iy .high) s)

/-- `AND IYL` (R510). -/
def execAndIyl (s : State) : Out := retire 2 (aluA .and (s.half .iy .low) s)

/-- `AND (IY+d)` (R489). -/
def execAndIndIyd (d : Byte) (s : State) : Out := retire 3 (aluMem .and (s.indexed .iy d) s)

/-- `XOR IYH` (R511). -/
def execXorIyh (s : State) : Out := retire 2 (aluA .xor (s.half .iy .high) s)

/-- `XOR IYL` (R511). -/
def execXorIyl (s : State) : Out := retire 2 (aluA .xor (s.half .iy .low) s)

/-- `XOR (IY+d)` (R490). -/
def execXorIndIyd (d : Byte) (s : State) : Out := retire 3 (aluMem .xor (s.indexed .iy d) s)

/-- `OR IYH` (R512). -/
def execOrIyh (s : State) : Out := retire 2 (aluA .or (s.half .iy .high) s)

/-- `OR IYL` (R512). -/
def execOrIyl (s : State) : Out := retire 2 (aluA .or (s.half .iy .low) s)

/-- `OR (IY+d)` (R491). -/
def execOrIndIyd (d : Byte) (s : State) : Out := retire 3 (aluMem .or (s.indexed .iy d) s)

/-- `CP IYH` (R513). -/
def execCpIyh (s : State) : Out := retire 2 (aluA .cp (s.half .iy .high) s)

/-- `CP IYL` (R513). -/
def execCpIyl (s : State) : Out := retire 2 (aluA .cp (s.half .iy .low) s)

/-- `CP (IY+d)` (R492). -/
def execCpIndIyd (d : Byte) (s : State) : Out := retire 3 (aluMem .cp (s.indexed .iy d) s)

/-- `POP IY` (R468). -/
def execPopIy (s : State) : Out :=
  let m := s.pop16
  retire 2 (m.2.setIdx .iy m.1)

/-- `EX (SP),IY` (R469). -/
def execExIndSpIy (s : State) : Out :=
  let m := exchangeTop s.iy s
  retire 2 (m.2.setIdx .iy m.1)

/-- `PUSH IY` (R467). -/
def execPushIy (s : State) : Out := retire 2 (s.push16 s.iy)

/-- `JP (IY)` (R470). -/
def execJpIndIy (s : State) : Out := jump s.iy s

/-- `LD SP,IY` (R466). -/
def execLdSpIy (s : State) : Out := retire 2 (s.setSp s.iy)

end Sys2Proof.Machine
end

