-- ==== Sys2Proof/Machine/IndexBit.lean ====
section
/-! DEFINITION. The composite plane DDCB/FDCB: shifts, rotates and bit operations on indexed memory, with and without the register
copy (49_index.md section 4). One meaning per instruction, over the shared operations of Ops.lean
and Operands.lean. -/

namespace Sys2Proof.Machine

/-- `RLC (IX+d)` (R521). -/
def execRlcIndIxd (d : Byte) (s : State) : Out := retire 4 (shiftMem .rlc (s.indexed .ix d) none s)

/-- `RLC (IX+d),r` (R522). -/
def execRlcIndIxdR (d : Byte) (r : Reg8) (s : State) : Out :=
  retire 4 (shiftMem .rlc (s.indexed .ix d) (some r) s)

/-- `RRC (IX+d)` (R521). -/
def execRrcIndIxd (d : Byte) (s : State) : Out := retire 4 (shiftMem .rrc (s.indexed .ix d) none s)

/-- `RRC (IX+d),r` (R522). -/
def execRrcIndIxdR (d : Byte) (r : Reg8) (s : State) : Out :=
  retire 4 (shiftMem .rrc (s.indexed .ix d) (some r) s)

/-- `RL (IX+d)` (R521). -/
def execRlIndIxd (d : Byte) (s : State) : Out := retire 4 (shiftMem .rl (s.indexed .ix d) none s)

/-- `RL (IX+d),r` (R522). -/
def execRlIndIxdR (d : Byte) (r : Reg8) (s : State) : Out :=
  retire 4 (shiftMem .rl (s.indexed .ix d) (some r) s)

/-- `RR (IX+d)` (R521). -/
def execRrIndIxd (d : Byte) (s : State) : Out := retire 4 (shiftMem .rr (s.indexed .ix d) none s)

/-- `RR (IX+d),r` (R522). -/
def execRrIndIxdR (d : Byte) (r : Reg8) (s : State) : Out :=
  retire 4 (shiftMem .rr (s.indexed .ix d) (some r) s)

/-- `SLA (IX+d)` (R521). -/
def execSlaIndIxd (d : Byte) (s : State) : Out := retire 4 (shiftMem .sla (s.indexed .ix d) none s)

/-- `SLA (IX+d),r` (R522). -/
def execSlaIndIxdR (d : Byte) (r : Reg8) (s : State) : Out :=
  retire 4 (shiftMem .sla (s.indexed .ix d) (some r) s)

/-- `SRA (IX+d)` (R521). -/
def execSraIndIxd (d : Byte) (s : State) : Out := retire 4 (shiftMem .sra (s.indexed .ix d) none s)

/-- `SRA (IX+d),r` (R522). -/
def execSraIndIxdR (d : Byte) (r : Reg8) (s : State) : Out :=
  retire 4 (shiftMem .sra (s.indexed .ix d) (some r) s)

/-- `SLL (IX+d)` (R521). -/
def execSllIndIxd (d : Byte) (s : State) : Out := retire 4 (shiftMem .sll (s.indexed .ix d) none s)

/-- `SLL (IX+d),r` (R522). -/
def execSllIndIxdR (d : Byte) (r : Reg8) (s : State) : Out :=
  retire 4 (shiftMem .sll (s.indexed .ix d) (some r) s)

/-- `SRL (IX+d)` (R521). -/
def execSrlIndIxd (d : Byte) (s : State) : Out := retire 4 (shiftMem .srl (s.indexed .ix d) none s)

/-- `SRL (IX+d),r` (R522). -/
def execSrlIndIxdR (d : Byte) (r : Reg8) (s : State) : Out :=
  retire 4 (shiftMem .srl (s.indexed .ix d) (some r) s)

/-- `BIT b,(IX+d)` (R523). -/
def execBitBIndIxd (b : Field3) (d : Byte) (s : State) : Out :=
  retire 4 (bitTestMem b (s.indexed .ix d) s)

/-- `RES b,(IX+d)` (R524). -/
def execResBIndIxd (b : Field3) (d : Byte) (s : State) : Out :=
  retire 4 (modifyMem (resBit b) (s.indexed .ix d) none s)

/-- `SET b,(IX+d)` (R525). -/
def execSetBIndIxd (b : Field3) (d : Byte) (s : State) : Out :=
  retire 4 (modifyMem (setBit b) (s.indexed .ix d) none s)

/-- `RES b,(IX+d),r` (R526). -/
def execResBIndIxdR (b : Field3) (d : Byte) (r : Reg8) (s : State) : Out :=
  retire 4 (modifyMem (resBit b) (s.indexed .ix d) (some r) s)

/-- `SET b,(IX+d),r` (R526). -/
def execSetBIndIxdR (b : Field3) (d : Byte) (r : Reg8) (s : State) : Out :=
  retire 4 (modifyMem (setBit b) (s.indexed .ix d) (some r) s)

/-- `RLC (IY+d)` (R521). -/
def execRlcIndIyd (d : Byte) (s : State) : Out := retire 4 (shiftMem .rlc (s.indexed .iy d) none s)

/-- `RLC (IY+d),r` (R522). -/
def execRlcIndIydR (d : Byte) (r : Reg8) (s : State) : Out :=
  retire 4 (shiftMem .rlc (s.indexed .iy d) (some r) s)

/-- `RRC (IY+d)` (R521). -/
def execRrcIndIyd (d : Byte) (s : State) : Out := retire 4 (shiftMem .rrc (s.indexed .iy d) none s)

/-- `RRC (IY+d),r` (R522). -/
def execRrcIndIydR (d : Byte) (r : Reg8) (s : State) : Out :=
  retire 4 (shiftMem .rrc (s.indexed .iy d) (some r) s)

/-- `RL (IY+d)` (R521). -/
def execRlIndIyd (d : Byte) (s : State) : Out := retire 4 (shiftMem .rl (s.indexed .iy d) none s)

/-- `RL (IY+d),r` (R522). -/
def execRlIndIydR (d : Byte) (r : Reg8) (s : State) : Out :=
  retire 4 (shiftMem .rl (s.indexed .iy d) (some r) s)

/-- `RR (IY+d)` (R521). -/
def execRrIndIyd (d : Byte) (s : State) : Out := retire 4 (shiftMem .rr (s.indexed .iy d) none s)

/-- `RR (IY+d),r` (R522). -/
def execRrIndIydR (d : Byte) (r : Reg8) (s : State) : Out :=
  retire 4 (shiftMem .rr (s.indexed .iy d) (some r) s)

/-- `SLA (IY+d)` (R521). -/
def execSlaIndIyd (d : Byte) (s : State) : Out := retire 4 (shiftMem .sla (s.indexed .iy d) none s)

/-- `SLA (IY+d),r` (R522). -/
def execSlaIndIydR (d : Byte) (r : Reg8) (s : State) : Out :=
  retire 4 (shiftMem .sla (s.indexed .iy d) (some r) s)

/-- `SRA (IY+d)` (R521). -/
def execSraIndIyd (d : Byte) (s : State) : Out := retire 4 (shiftMem .sra (s.indexed .iy d) none s)

/-- `SRA (IY+d),r` (R522). -/
def execSraIndIydR (d : Byte) (r : Reg8) (s : State) : Out :=
  retire 4 (shiftMem .sra (s.indexed .iy d) (some r) s)

/-- `SLL (IY+d)` (R521). -/
def execSllIndIyd (d : Byte) (s : State) : Out := retire 4 (shiftMem .sll (s.indexed .iy d) none s)

/-- `SLL (IY+d),r` (R522). -/
def execSllIndIydR (d : Byte) (r : Reg8) (s : State) : Out :=
  retire 4 (shiftMem .sll (s.indexed .iy d) (some r) s)

/-- `SRL (IY+d)` (R521). -/
def execSrlIndIyd (d : Byte) (s : State) : Out := retire 4 (shiftMem .srl (s.indexed .iy d) none s)

/-- `SRL (IY+d),r` (R522). -/
def execSrlIndIydR (d : Byte) (r : Reg8) (s : State) : Out :=
  retire 4 (shiftMem .srl (s.indexed .iy d) (some r) s)

/-- `BIT b,(IY+d)` (R523). -/
def execBitBIndIyd (b : Field3) (d : Byte) (s : State) : Out :=
  retire 4 (bitTestMem b (s.indexed .iy d) s)

/-- `RES b,(IY+d)` (R524). -/
def execResBIndIyd (b : Field3) (d : Byte) (s : State) : Out :=
  retire 4 (modifyMem (resBit b) (s.indexed .iy d) none s)

/-- `SET b,(IY+d)` (R525). -/
def execSetBIndIyd (b : Field3) (d : Byte) (s : State) : Out :=
  retire 4 (modifyMem (setBit b) (s.indexed .iy d) none s)

/-- `RES b,(IY+d),r` (R526). -/
def execResBIndIydR (b : Field3) (d : Byte) (r : Reg8) (s : State) : Out :=
  retire 4 (modifyMem (resBit b) (s.indexed .iy d) (some r) s)

/-- `SET b,(IY+d),r` (R526). -/
def execSetBIndIydR (b : Field3) (d : Byte) (r : Reg8) (s : State) : Out :=
  retire 4 (modifyMem (setBit b) (s.indexed .iy d) (some r) s)

end Sys2Proof.Machine
end

