-- ==== Sys2Proof/Machine/IoSystem.lean ====
section
/-! DEFINITION. Input/output and CPU control (47_io_system.md). One meaning per instruction, over the shared operations of Ops.lean
and Operands.lean. -/

namespace Sys2Proof.Machine

/-- `NOP` (R396). -/
def execNop (s : State) : Out := retire 1 s

/-- `HALT` (R397). -/
def execHalt (s : State) : Out := retire 1 s.setHalted

/-- `OUT (n),A` (R391). -/
def execOutIndNA (n : Byte) (s : State) : Out := retire 2 (s.ioWrite (mkWord s.main.a n) s.main.a)

/-- `IN A,(n)` (R390). -/
def execInAIndN (n : Byte) (s : State) : Out :=
  let m := s.ioRead (mkWord s.main.a n)
  retire 2 (m.2.setReg .a m.1)

/-- `DI` (R402). -/
def execDi (s : State) : Out := retire 1 s.setPendingDi

/-- `EI` (R403). -/
def execEi (s : State) : Out := retire 1 s.setPendingEi

/-- `IN r,(C)` (R392). -/
def execInRIndC (r : Reg8) (s : State) : Out :=
  let m := s.ioRead s.main.bc
  retire 2 ((m.2.setReg r m.1).setFlags (inFlags m.1 s.flags))

/-- `IN (C)` (R394). -/
def execInIndC (s : State) : Out :=
  let m := s.ioRead s.main.bc
  retire 2 (m.2.setFlags (inFlags m.1 s.flags))

/-- `OUT (C),r` (R393). -/
def execOutIndCR (r : Reg8) (s : State) : Out := retire 2 (s.ioWrite s.main.bc (s.reg r))

/-- `OUT (C),0` (R395). -/
def execOutIndC0 (s : State) : Out := retire 2 (s.ioWrite s.main.bc 0)

/-- `RETI` (R407). -/
def execReti (s : State) : Out := returnFromInt false s

/-- `RETN` (R408). -/
def execRetn (s : State) : Out := returnFromInt true s

/-- `IM 0` (R404). -/
def execIm0 (s : State) : Out := retire 2 (s.setIm .im0)

/-- `IM 1` (R405). -/
def execIm1 (s : State) : Out := retire 2 (s.setIm .im1)

/-- `IM 2` (R406). -/
def execIm2 (s : State) : Out := retire 2 (s.setIm .im2)

/-- `LD I,A` (R398). -/
def execLdIA (s : State) : Out := retire 2 (s.setI s.main.a)

/-- `LD R,A` (R399). -/
def execLdRefreshA (s : State) : Out := retire 2 (s.setR s.main.a)

/-- `LD A,I` (R400). -/
def execLdAI (s : State) : Out := retire 2 (loadASpecial s.i s)

/-- `LD A,R` (R401). -/
def execLdARefresh (s : State) : Out := retire 2 (loadASpecial s.r s)

end Sys2Proof.Machine
end

