-- ==== Sys2Proof/Machine/Load16.lean ====
section
/-! DEFINITION. 16-bit loads, the stack and the exchanges (42_load16_stack_exchange.md). One meaning per instruction, over the shared operations of Ops.lean
and Operands.lean. -/

namespace Sys2Proof.Machine

/-- `EX AF,AF'` (R214). -/
def execExAfAf (s : State) : Out := retire 1 (exchangeAf s)

/-- `LD dd,nn` (R190). -/
def execLdDdNn (dd : Pair) (nn : Word) (s : State) : Out := retire 3 (s.setPair dd nn)

/-- `LD (nn),HL` (R192). -/
def execLdIndNnHl (nn : Word) (s : State) : Out := retire 3 (s.memWrite16 nn s.main.hl)

/-- `LD HL,(nn)` (R191). -/
def execLdHlIndNn (nn : Word) (s : State) : Out :=
  let m := s.memRead16 nn
  retire 3 (m.2.setPair .hl m.1)

/-- `POP qq` (R197). -/
def execPopQq (qq : PairQ) (s : State) : Out :=
  let m := s.pop16
  retire 1 (m.2.setPairQ qq m.1)

/-- `EXX` (R215). -/
def execExx (s : State) : Out := retire 1 (exchangeBanks s)

/-- `LD SP,HL` (R195). -/
def execLdSpHl (s : State) : Out := retire 1 (s.setSp s.main.hl)

/-- `EX (SP),HL` (R211). -/
def execExIndSpHl (s : State) : Out :=
  let m := exchangeTop s.main.hl s
  retire 1 (m.2.setPair .hl m.1)

/-- `EX DE,HL` (R210). -/
def execExDeHl (s : State) : Out := retire 1 ((s.setPair .de s.main.hl).setPair .hl s.main.de)

/-- `PUSH qq` (R196). -/
def execPushQq (qq : PairQ) (s : State) : Out := retire 1 (s.push16 (s.pairQ qq))

/-- `LD (nn),dd` (R194). -/
def execLdIndNnDd (nn : Word) (dd : Pair) (s : State) : Out := retire 4 (s.memWrite16 nn (s.pair dd))

/-- `LD dd,(nn)` (R193). -/
def execLdDdIndNn (dd : Pair) (nn : Word) (s : State) : Out :=
  let m := s.memRead16 nn
  retire 4 (m.2.setPair dd m.1)

end Sys2Proof.Machine
end

