-- ==== Sys2Proof/Machine/Load8.lean ====
section
/-! DEFINITION. The 8-bit load group (41_load8.md). One meaning per instruction, over the shared operations of Ops.lean
and Operands.lean. -/

namespace Sys2Proof.Machine

/-- `LD (BC),A` (R158). -/
def execLdIndBcA (s : State) : Out := retire 1 (s.memWrite s.main.bc s.main.a)

/-- `LD (DE),A` (R159). -/
def execLdIndDeA (s : State) : Out := retire 1 (s.memWrite s.main.de s.main.a)

/-- `LD (nn),A` (R160). -/
def execLdIndNnA (nn : Word) (s : State) : Out := retire 3 (s.memWrite nn s.main.a)

/-- `LD A,(BC)` (R155). -/
def execLdAIndBc (s : State) : Out := retire 1 (loadReg .a s.main.bc s)

/-- `LD A,(DE)` (R156). -/
def execLdAIndDe (s : State) : Out := retire 1 (loadReg .a s.main.de s)

/-- `LD A,(nn)` (R157). -/
def execLdAIndNn (nn : Word) (s : State) : Out := retire 3 (loadReg .a nn s)

/-- `LD r,n` (R153). -/
def execLdRN (r : Reg8) (n : Byte) (s : State) : Out := retire 2 (s.setReg r n)

/-- `LD (HL),n` (R154). -/
def execLdIndHlN (n : Byte) (s : State) : Out := retire 2 (s.memWrite s.main.hl n)

/-- `LD r,r'` (R150). -/
def execLdRR (r : Reg8) (r' : Reg8) (s : State) : Out := retire 1 (s.setReg r (s.reg r'))

/-- `LD r,(HL)` (R151). -/
def execLdRIndHl (r : Reg8) (s : State) : Out := retire 1 (loadReg r s.main.hl s)

/-- `LD (HL),r` (R152). -/
def execLdIndHlR (r : Reg8) (s : State) : Out := retire 1 (s.memWrite s.main.hl (s.reg r))

end Sys2Proof.Machine
end

