-- ==== Sys2Proof/Machine/RotateShiftBit.lean ====
section
/-! DEFINITION. The rotate, shift and bit group (45_rotate_shift_bit.md). One meaning per instruction, over the shared operations of Ops.lean
and Operands.lean. -/

namespace Sys2Proof.Machine

/-- `RLCA` (R320). -/
def execRlca (s : State) : Out := retire 1 (rotateA .rlc s)

/-- `RRCA` (R321). -/
def execRrca (s : State) : Out := retire 1 (rotateA .rrc s)

/-- `RLA` (R322). -/
def execRla (s : State) : Out := retire 1 (rotateA .rl s)

/-- `RRA` (R323). -/
def execRra (s : State) : Out := retire 1 (rotateA .rr s)

/-- `RLC r` (R303). -/
def execRlcR (r : Reg8) (s : State) : Out := retire 2 (shiftReg .rlc r s)

/-- `RLC (HL)` (R304). -/
def execRlcIndHl (s : State) : Out := retire 2 (shiftMem .rlc s.main.hl none s)

/-- `RRC r` (R305). -/
def execRrcR (r : Reg8) (s : State) : Out := retire 2 (shiftReg .rrc r s)

/-- `RRC (HL)` (R306). -/
def execRrcIndHl (s : State) : Out := retire 2 (shiftMem .rrc s.main.hl none s)

/-- `RL r` (R307). -/
def execRlR (r : Reg8) (s : State) : Out := retire 2 (shiftReg .rl r s)

/-- `RL (HL)` (R308). -/
def execRlIndHl (s : State) : Out := retire 2 (shiftMem .rl s.main.hl none s)

/-- `RR r` (R309). -/
def execRrR (r : Reg8) (s : State) : Out := retire 2 (shiftReg .rr r s)

/-- `RR (HL)` (R310). -/
def execRrIndHl (s : State) : Out := retire 2 (shiftMem .rr s.main.hl none s)

/-- `SLA r` (R311). -/
def execSlaR (r : Reg8) (s : State) : Out := retire 2 (shiftReg .sla r s)

/-- `SLA (HL)` (R312). -/
def execSlaIndHl (s : State) : Out := retire 2 (shiftMem .sla s.main.hl none s)

/-- `SRA r` (R313). -/
def execSraR (r : Reg8) (s : State) : Out := retire 2 (shiftReg .sra r s)

/-- `SRA (HL)` (R314). -/
def execSraIndHl (s : State) : Out := retire 2 (shiftMem .sra s.main.hl none s)

/-- `SLL r` (R315). -/
def execSllR (r : Reg8) (s : State) : Out := retire 2 (shiftReg .sll r s)

/-- `SLL (HL)` (R316). -/
def execSllIndHl (s : State) : Out := retire 2 (shiftMem .sll s.main.hl none s)

/-- `SRL r` (R317). -/
def execSrlR (r : Reg8) (s : State) : Out := retire 2 (shiftReg .srl r s)

/-- `SRL (HL)` (R318). -/
def execSrlIndHl (s : State) : Out := retire 2 (shiftMem .srl s.main.hl none s)

/-- `BIT b,r` (R324). -/
def execBitBR (b : Field3) (r : Reg8) (s : State) : Out :=
  retire 2 (s.setFlags (bitTest b (s.reg r) s.flags))

/-- `BIT b,(HL)` (R325). -/
def execBitBIndHl (b : Field3) (s : State) : Out := retire 2 (bitTestMem b s.main.hl s)

/-- `RES b,r` (R326). -/
def execResBR (b : Field3) (r : Reg8) (s : State) : Out := retire 2 (s.setReg r (resBit b (s.reg r)))

/-- `RES b,(HL)` (R327). -/
def execResBIndHl (b : Field3) (s : State) : Out := retire 2 (modifyMem (resBit b) s.main.hl none s)

/-- `SET b,r` (R328). -/
def execSetBR (b : Field3) (r : Reg8) (s : State) : Out := retire 2 (s.setReg r (setBit b (s.reg r)))

/-- `SET b,(HL)` (R329). -/
def execSetBIndHl (b : Field3) (s : State) : Out := retire 2 (modifyMem (setBit b) s.main.hl none s)

/-- `RRD` (R331). -/
def execRrd (s : State) : Out := retire 2 (nibbleRotate rrdNibbles s)

/-- `RLD` (R330). -/
def execRld (s : State) : Out := retire 2 (nibbleRotate rldNibbles s)

end Sys2Proof.Machine
end

