-- ==== Sys2Proof/Machine/Dispatch.lean ====
section
/-! DEFINITION. One arm per instruction: the meaning each constructor of `Instr` has. `PC` holds the address `a` of the
instruction's first byte when a meaning runs, and the value after the instruction when it answers (00_scope.md R13). -/

namespace Sys2Proof.Machine

def exec (i : Instr) (s : State) : Host.Outcome State Fault Refusal :=
  match i with
  | .nop => Sys2Proof.Machine.execNop s
  | .exAfAf => Sys2Proof.Machine.execExAfAf s
  | .djnz e => Sys2Proof.Machine.execDjnz e s
  | .jr e => Sys2Proof.Machine.execJr e s
  | .jrCc cc e => Sys2Proof.Machine.execJrCc cc e s
  | .ldDdNn dd nn => Sys2Proof.Machine.execLdDdNn dd nn s
  | .addHlSs ss => Sys2Proof.Machine.execAddHlSs ss s
  | .ldIndBcA => Sys2Proof.Machine.execLdIndBcA s
  | .ldIndDeA => Sys2Proof.Machine.execLdIndDeA s
  | .ldIndNnHl nn => Sys2Proof.Machine.execLdIndNnHl nn s
  | .ldIndNnA nn => Sys2Proof.Machine.execLdIndNnA nn s
  | .ldAIndBc => Sys2Proof.Machine.execLdAIndBc s
  | .ldAIndDe => Sys2Proof.Machine.execLdAIndDe s
  | .ldHlIndNn nn => Sys2Proof.Machine.execLdHlIndNn nn s
  | .ldAIndNn nn => Sys2Proof.Machine.execLdAIndNn nn s
  | .incSs ss => Sys2Proof.Machine.execIncSs ss s
  | .decSs ss => Sys2Proof.Machine.execDecSs ss s
  | .incR r => Sys2Proof.Machine.execIncR r s
  | .incIndHl => Sys2Proof.Machine.execIncIndHl s
  | .decR r => Sys2Proof.Machine.execDecR r s
  | .decIndHl => Sys2Proof.Machine.execDecIndHl s
  | .ldRN r n => Sys2Proof.Machine.execLdRN r n s
  | .ldIndHlN n => Sys2Proof.Machine.execLdIndHlN n s
  | .rlca => Sys2Proof.Machine.execRlca s
  | .rrca => Sys2Proof.Machine.execRrca s
  | .rla => Sys2Proof.Machine.execRla s
  | .rra => Sys2Proof.Machine.execRra s
  | .daa => Sys2Proof.Machine.execDaa s
  | .cpl => Sys2Proof.Machine.execCpl s
  | .scf => Sys2Proof.Machine.execScf s
  | .ccf => Sys2Proof.Machine.execCcf s
  | .ldRR r r' => Sys2Proof.Machine.execLdRR r r' s
  | .ldRIndHl r => Sys2Proof.Machine.execLdRIndHl r s
  | .ldIndHlR r => Sys2Proof.Machine.execLdIndHlR r s
  | .halt => Sys2Proof.Machine.execHalt s
  | .addAR r => Sys2Proof.Machine.execAddAR r s
  | .addAIndHl => Sys2Proof.Machine.execAddAIndHl s
  | .addAN n => Sys2Proof.Machine.execAddAN n s
  | .adcAR r => Sys2Proof.Machine.execAdcAR r s
  | .adcAIndHl => Sys2Proof.Machine.execAdcAIndHl s
  | .adcAN n => Sys2Proof.Machine.execAdcAN n s
  | .subR r => Sys2Proof.Machine.execSubR r s
  | .subIndHl => Sys2Proof.Machine.execSubIndHl s
  | .subN n => Sys2Proof.Machine.execSubN n s
  | .sbcAR r => Sys2Proof.Machine.execSbcAR r s
  | .sbcAIndHl => Sys2Proof.Machine.execSbcAIndHl s
  | .sbcAN n => Sys2Proof.Machine.execSbcAN n s
  | .andR r => Sys2Proof.Machine.execAndR r s
  | .andIndHl => Sys2Proof.Machine.execAndIndHl s
  | .andN n => Sys2Proof.Machine.execAndN n s
  | .xorR r => Sys2Proof.Machine.execXorR r s
  | .xorIndHl => Sys2Proof.Machine.execXorIndHl s
  | .xorN n => Sys2Proof.Machine.execXorN n s
  | .orR r => Sys2Proof.Machine.execOrR r s
  | .orIndHl => Sys2Proof.Machine.execOrIndHl s
  | .orN n => Sys2Proof.Machine.execOrN n s
  | .cpR r => Sys2Proof.Machine.execCpR r s
  | .cpIndHl => Sys2Proof.Machine.execCpIndHl s
  | .cpN n => Sys2Proof.Machine.execCpN n s
  | .retCc cc => Sys2Proof.Machine.execRetCc cc s
  | .popQq qq => Sys2Proof.Machine.execPopQq qq s
  | .ret => Sys2Proof.Machine.execRet s
  | .exx => Sys2Proof.Machine.execExx s
  | .jpIndHl => Sys2Proof.Machine.execJpIndHl s
  | .ldSpHl => Sys2Proof.Machine.execLdSpHl s
  | .jpCcNn cc nn => Sys2Proof.Machine.execJpCcNn cc nn s
  | .jpNn nn => Sys2Proof.Machine.execJpNn nn s
  | .outIndNA n => Sys2Proof.Machine.execOutIndNA n s
  | .inAIndN n => Sys2Proof.Machine.execInAIndN n s
  | .exIndSpHl => Sys2Proof.Machine.execExIndSpHl s
  | .exDeHl => Sys2Proof.Machine.execExDeHl s
  | .di => Sys2Proof.Machine.execDi s
  | .ei => Sys2Proof.Machine.execEi s
  | .callCcNn cc nn => Sys2Proof.Machine.execCallCcNn cc nn s
  | .pushQq qq => Sys2Proof.Machine.execPushQq qq s
  | .callNn nn => Sys2Proof.Machine.execCallNn nn s
  | .rstP t => Sys2Proof.Machine.execRstP t s
  | .rlcR r => Sys2Proof.Machine.execRlcR r s
  | .rlcIndHl => Sys2Proof.Machine.execRlcIndHl s
  | .rrcR r => Sys2Proof.Machine.execRrcR r s
  | .rrcIndHl => Sys2Proof.Machine.execRrcIndHl s
  | .rlR r => Sys2Proof.Machine.execRlR r s
  | .rlIndHl => Sys2Proof.Machine.execRlIndHl s
  | .rrR r => Sys2Proof.Machine.execRrR r s
  | .rrIndHl => Sys2Proof.Machine.execRrIndHl s
  | .slaR r => Sys2Proof.Machine.execSlaR r s
  | .slaIndHl => Sys2Proof.Machine.execSlaIndHl s
  | .sraR r => Sys2Proof.Machine.execSraR r s
  | .sraIndHl => Sys2Proof.Machine.execSraIndHl s
  | .sllR r => Sys2Proof.Machine.execSllR r s
  | .sllIndHl => Sys2Proof.Machine.execSllIndHl s
  | .srlR r => Sys2Proof.Machine.execSrlR r s
  | .srlIndHl => Sys2Proof.Machine.execSrlIndHl s
  | .bitBR b r => Sys2Proof.Machine.execBitBR b r s
  | .bitBIndHl b => Sys2Proof.Machine.execBitBIndHl b s
  | .resBR b r => Sys2Proof.Machine.execResBR b r s
  | .resBIndHl b => Sys2Proof.Machine.execResBIndHl b s
  | .setBR b r => Sys2Proof.Machine.execSetBR b r s
  | .setBIndHl b => Sys2Proof.Machine.execSetBIndHl b s
  | .inRIndC r => Sys2Proof.Machine.execInRIndC r s
  | .inIndC => Sys2Proof.Machine.execInIndC s
  | .outIndCR r => Sys2Proof.Machine.execOutIndCR r s
  | .outIndC0 => Sys2Proof.Machine.execOutIndC0 s
  | .sbcHlSs ss => Sys2Proof.Machine.execSbcHlSs ss s
  | .adcHlSs ss => Sys2Proof.Machine.execAdcHlSs ss s
  | .ldIndNnDd nn dd => Sys2Proof.Machine.execLdIndNnDd nn dd s
  | .ldDdIndNn dd nn => Sys2Proof.Machine.execLdDdIndNn dd nn s
  | .neg _ => Sys2Proof.Machine.execNeg s
  | .reti => Sys2Proof.Machine.execReti s
  | .retn _ => Sys2Proof.Machine.execRetn s
  | .im0 _ => Sys2Proof.Machine.execIm0 s
  | .im1 _ => Sys2Proof.Machine.execIm1 s
  | .im2 _ => Sys2Proof.Machine.execIm2 s
  | .ldIA => Sys2Proof.Machine.execLdIA s
  | .ldRefreshA => Sys2Proof.Machine.execLdRefreshA s
  | .ldAI => Sys2Proof.Machine.execLdAI s
  | .ldARefresh => Sys2Proof.Machine.execLdARefresh s
  | .rrd => Sys2Proof.Machine.execRrd s
  | .rld => Sys2Proof.Machine.execRld s
  | .ldi => Sys2Proof.Machine.execLdi s
  | .ldd => Sys2Proof.Machine.execLdd s
  | .ldir => Sys2Proof.Machine.execLdir s
  | .lddr => Sys2Proof.Machine.execLddr s
  | .cpi => Sys2Proof.Machine.execCpi s
  | .cpd => Sys2Proof.Machine.execCpd s
  | .cpir => Sys2Proof.Machine.execCpir s
  | .cpdr => Sys2Proof.Machine.execCpdr s
  | .ini => Sys2Proof.Machine.execIni s
  | .ind => Sys2Proof.Machine.execInd s
  | .inir => Sys2Proof.Machine.execInir s
  | .indr => Sys2Proof.Machine.execIndr s
  | .outi => Sys2Proof.Machine.execOuti s
  | .outd => Sys2Proof.Machine.execOutd s
  | .otir => Sys2Proof.Machine.execOtir s
  | .otdr => Sys2Proof.Machine.execOtdr s
  | .edNop00 _ => Sys2Proof.Machine.execEdNop00 s
  | .edNop77 => Sys2Proof.Machine.execEdNop77 s
  | .edNop7F => Sys2Proof.Machine.execEdNop7F s
  | .edNop80 _ => Sys2Proof.Machine.execEdNop80 s
  | .edNopA4 _ => Sys2Proof.Machine.execEdNopA4 s
  | .edNopC0 _ => Sys2Proof.Machine.execEdNopC0 s
  | .addIxPp pp => Sys2Proof.Machine.execAddIxPp pp s
  | .ldIxNn nn => Sys2Proof.Machine.execLdIxNn nn s
  | .ldIndNnIx nn => Sys2Proof.Machine.execLdIndNnIx nn s
  | .ldIxIndNn nn => Sys2Proof.Machine.execLdIxIndNn nn s
  | .incIx => Sys2Proof.Machine.execIncIx s
  | .decIx => Sys2Proof.Machine.execDecIx s
  | .incIxh => Sys2Proof.Machine.execIncIxh s
  | .incIxl => Sys2Proof.Machine.execIncIxl s
  | .decIxh => Sys2Proof.Machine.execDecIxh s
  | .decIxl => Sys2Proof.Machine.execDecIxl s
  | .ldIxhN n => Sys2Proof.Machine.execLdIxhN n s
  | .ldIxlN n => Sys2Proof.Machine.execLdIxlN n s
  | .incIndIxd d => Sys2Proof.Machine.execIncIndIxd d s
  | .decIndIxd d => Sys2Proof.Machine.execDecIndIxd d s
  | .ldIndIxdN d n => Sys2Proof.Machine.execLdIndIxdN d n s
  | .ldRIndIxd r d => Sys2Proof.Machine.execLdRIndIxd r d s
  | .ldIndIxdR d r => Sys2Proof.Machine.execLdIndIxdR d r s
  | .ldRIxh r => Sys2Proof.Machine.execLdRIxh r s
  | .ldRIxl r => Sys2Proof.Machine.execLdRIxl r s
  | .ldIxhR r => Sys2Proof.Machine.execLdIxhR r s
  | .ldIxlR r => Sys2Proof.Machine.execLdIxlR r s
  | .ldIxhIxh => Sys2Proof.Machine.execLdIxhIxh s
  | .ldIxhIxl => Sys2Proof.Machine.execLdIxhIxl s
  | .ldIxlIxh => Sys2Proof.Machine.execLdIxlIxh s
  | .ldIxlIxl => Sys2Proof.Machine.execLdIxlIxl s
  | .addAIxh => Sys2Proof.Machine.execAddAIxh s
  | .addAIxl => Sys2Proof.Machine.execAddAIxl s
  | .addAIndIxd d => Sys2Proof.Machine.execAddAIndIxd d s
  | .adcAIxh => Sys2Proof.Machine.execAdcAIxh s
  | .adcAIxl => Sys2Proof.Machine.execAdcAIxl s
  | .adcAIndIxd d => Sys2Proof.Machine.execAdcAIndIxd d s
  | .subIxh => Sys2Proof.Machine.execSubIxh s
  | .subIxl => Sys2Proof.Machine.execSubIxl s
  | .subIndIxd d => Sys2Proof.Machine.execSubIndIxd d s
  | .sbcAIxh => Sys2Proof.Machine.execSbcAIxh s
  | .sbcAIxl => Sys2Proof.Machine.execSbcAIxl s
  | .sbcAIndIxd d => Sys2Proof.Machine.execSbcAIndIxd d s
  | .andIxh => Sys2Proof.Machine.execAndIxh s
  | .andIxl => Sys2Proof.Machine.execAndIxl s
  | .andIndIxd d => Sys2Proof.Machine.execAndIndIxd d s
  | .xorIxh => Sys2Proof.Machine.execXorIxh s
  | .xorIxl => Sys2Proof.Machine.execXorIxl s
  | .xorIndIxd d => Sys2Proof.Machine.execXorIndIxd d s
  | .orIxh => Sys2Proof.Machine.execOrIxh s
  | .orIxl => Sys2Proof.Machine.execOrIxl s
  | .orIndIxd d => Sys2Proof.Machine.execOrIndIxd d s
  | .cpIxh => Sys2Proof.Machine.execCpIxh s
  | .cpIxl => Sys2Proof.Machine.execCpIxl s
  | .cpIndIxd d => Sys2Proof.Machine.execCpIndIxd d s
  | .popIx => Sys2Proof.Machine.execPopIx s
  | .exIndSpIx => Sys2Proof.Machine.execExIndSpIx s
  | .pushIx => Sys2Proof.Machine.execPushIx s
  | .jpIndIx => Sys2Proof.Machine.execJpIndIx s
  | .ldSpIx => Sys2Proof.Machine.execLdSpIx s
  | .rlcIndIxd d => Sys2Proof.Machine.execRlcIndIxd d s
  | .rlcIndIxdR d r => Sys2Proof.Machine.execRlcIndIxdR d r s
  | .rrcIndIxd d => Sys2Proof.Machine.execRrcIndIxd d s
  | .rrcIndIxdR d r => Sys2Proof.Machine.execRrcIndIxdR d r s
  | .rlIndIxd d => Sys2Proof.Machine.execRlIndIxd d s
  | .rlIndIxdR d r => Sys2Proof.Machine.execRlIndIxdR d r s
  | .rrIndIxd d => Sys2Proof.Machine.execRrIndIxd d s
  | .rrIndIxdR d r => Sys2Proof.Machine.execRrIndIxdR d r s
  | .slaIndIxd d => Sys2Proof.Machine.execSlaIndIxd d s
  | .slaIndIxdR d r => Sys2Proof.Machine.execSlaIndIxdR d r s
  | .sraIndIxd d => Sys2Proof.Machine.execSraIndIxd d s
  | .sraIndIxdR d r => Sys2Proof.Machine.execSraIndIxdR d r s
  | .sllIndIxd d => Sys2Proof.Machine.execSllIndIxd d s
  | .sllIndIxdR d r => Sys2Proof.Machine.execSllIndIxdR d r s
  | .srlIndIxd d => Sys2Proof.Machine.execSrlIndIxd d s
  | .srlIndIxdR d r => Sys2Proof.Machine.execSrlIndIxdR d r s
  | .bitBIndIxd b d _ => Sys2Proof.Machine.execBitBIndIxd b d s
  | .resBIndIxd b d => Sys2Proof.Machine.execResBIndIxd b d s
  | .setBIndIxd b d => Sys2Proof.Machine.execSetBIndIxd b d s
  | .resBIndIxdR b d r => Sys2Proof.Machine.execResBIndIxdR b d r s
  | .setBIndIxdR b d r => Sys2Proof.Machine.execSetBIndIxdR b d r s
  | .loneDd => Sys2Proof.Machine.execLoneDd s
  | .addIyPp pp => Sys2Proof.Machine.execAddIyPp pp s
  | .ldIyNn nn => Sys2Proof.Machine.execLdIyNn nn s
  | .ldIndNnIy nn => Sys2Proof.Machine.execLdIndNnIy nn s
  | .ldIyIndNn nn => Sys2Proof.Machine.execLdIyIndNn nn s
  | .incIy => Sys2Proof.Machine.execIncIy s
  | .decIy => Sys2Proof.Machine.execDecIy s
  | .incIyh => Sys2Proof.Machine.execIncIyh s
  | .incIyl => Sys2Proof.Machine.execIncIyl s
  | .decIyh => Sys2Proof.Machine.execDecIyh s
  | .decIyl => Sys2Proof.Machine.execDecIyl s
  | .ldIyhN n => Sys2Proof.Machine.execLdIyhN n s
  | .ldIylN n => Sys2Proof.Machine.execLdIylN n s
  | .incIndIyd d => Sys2Proof.Machine.execIncIndIyd d s
  | .decIndIyd d => Sys2Proof.Machine.execDecIndIyd d s
  | .ldIndIydN d n => Sys2Proof.Machine.execLdIndIydN d n s
  | .ldRIndIyd r d => Sys2Proof.Machine.execLdRIndIyd r d s
  | .ldIndIydR d r => Sys2Proof.Machine.execLdIndIydR d r s
  | .ldRIyh r => Sys2Proof.Machine.execLdRIyh r s
  | .ldRIyl r => Sys2Proof.Machine.execLdRIyl r s
  | .ldIyhR r => Sys2Proof.Machine.execLdIyhR r s
  | .ldIylR r => Sys2Proof.Machine.execLdIylR r s
  | .ldIyhIyh => Sys2Proof.Machine.execLdIyhIyh s
  | .ldIyhIyl => Sys2Proof.Machine.execLdIyhIyl s
  | .ldIylIyh => Sys2Proof.Machine.execLdIylIyh s
  | .ldIylIyl => Sys2Proof.Machine.execLdIylIyl s
  | .addAIyh => Sys2Proof.Machine.execAddAIyh s
  | .addAIyl => Sys2Proof.Machine.execAddAIyl s
  | .addAIndIyd d => Sys2Proof.Machine.execAddAIndIyd d s
  | .adcAIyh => Sys2Proof.Machine.execAdcAIyh s
  | .adcAIyl => Sys2Proof.Machine.execAdcAIyl s
  | .adcAIndIyd d => Sys2Proof.Machine.execAdcAIndIyd d s
  | .subIyh => Sys2Proof.Machine.execSubIyh s
  | .subIyl => Sys2Proof.Machine.execSubIyl s
  | .subIndIyd d => Sys2Proof.Machine.execSubIndIyd d s
  | .sbcAIyh => Sys2Proof.Machine.execSbcAIyh s
  | .sbcAIyl => Sys2Proof.Machine.execSbcAIyl s
  | .sbcAIndIyd d => Sys2Proof.Machine.execSbcAIndIyd d s
  | .andIyh => Sys2Proof.Machine.execAndIyh s
  | .andIyl => Sys2Proof.Machine.execAndIyl s
  | .andIndIyd d => Sys2Proof.Machine.execAndIndIyd d s
  | .xorIyh => Sys2Proof.Machine.execXorIyh s
  | .xorIyl => Sys2Proof.Machine.execXorIyl s
  | .xorIndIyd d => Sys2Proof.Machine.execXorIndIyd d s
  | .orIyh => Sys2Proof.Machine.execOrIyh s
  | .orIyl => Sys2Proof.Machine.execOrIyl s
  | .orIndIyd d => Sys2Proof.Machine.execOrIndIyd d s
  | .cpIyh => Sys2Proof.Machine.execCpIyh s
  | .cpIyl => Sys2Proof.Machine.execCpIyl s
  | .cpIndIyd d => Sys2Proof.Machine.execCpIndIyd d s
  | .popIy => Sys2Proof.Machine.execPopIy s
  | .exIndSpIy => Sys2Proof.Machine.execExIndSpIy s
  | .pushIy => Sys2Proof.Machine.execPushIy s
  | .jpIndIy => Sys2Proof.Machine.execJpIndIy s
  | .ldSpIy => Sys2Proof.Machine.execLdSpIy s
  | .rlcIndIyd d => Sys2Proof.Machine.execRlcIndIyd d s
  | .rlcIndIydR d r => Sys2Proof.Machine.execRlcIndIydR d r s
  | .rrcIndIyd d => Sys2Proof.Machine.execRrcIndIyd d s
  | .rrcIndIydR d r => Sys2Proof.Machine.execRrcIndIydR d r s
  | .rlIndIyd d => Sys2Proof.Machine.execRlIndIyd d s
  | .rlIndIydR d r => Sys2Proof.Machine.execRlIndIydR d r s
  | .rrIndIyd d => Sys2Proof.Machine.execRrIndIyd d s
  | .rrIndIydR d r => Sys2Proof.Machine.execRrIndIydR d r s
  | .slaIndIyd d => Sys2Proof.Machine.execSlaIndIyd d s
  | .slaIndIydR d r => Sys2Proof.Machine.execSlaIndIydR d r s
  | .sraIndIyd d => Sys2Proof.Machine.execSraIndIyd d s
  | .sraIndIydR d r => Sys2Proof.Machine.execSraIndIydR d r s
  | .sllIndIyd d => Sys2Proof.Machine.execSllIndIyd d s
  | .sllIndIydR d r => Sys2Proof.Machine.execSllIndIydR d r s
  | .srlIndIyd d => Sys2Proof.Machine.execSrlIndIyd d s
  | .srlIndIydR d r => Sys2Proof.Machine.execSrlIndIydR d r s
  | .bitBIndIyd b d _ => Sys2Proof.Machine.execBitBIndIyd b d s
  | .resBIndIyd b d => Sys2Proof.Machine.execResBIndIyd b d s
  | .setBIndIyd b d => Sys2Proof.Machine.execSetBIndIyd b d s
  | .resBIndIydR b d r => Sys2Proof.Machine.execResBIndIydR b d r s
  | .setBIndIydR b d r => Sys2Proof.Machine.execSetBIndIydR b d r s
  | .loneFd => Sys2Proof.Machine.execLoneFd s

end Sys2Proof.Machine
end

