-- ==== Sys2Proof/Machine/Fetch.lean ====
section
/-! DEFINITION. Fetching and running one instruction: the step of 40_fetch_decode.md, the mode-0 injection and the `irq` port of
60_exceptions.md, and the performance of the host's next call. Step.lean only calls what stands here. -/

namespace Sys2Proof.Machine

/-- `n` fetches on the bus, at `a`, `a + 1`, ... (20_memory.md R68, R73). -/
def State.fetchBytes (s : State) (a : Word) : Nat → State
  | 0 => s
  | n + 1 => State.fetchBytes (s.memRead a).2 (a + 1) n

/-- What the fetch numbered `k`, from 0, of a run of fetches from `a` on answers: every byte "at the moment the decode needs it"
(20_memory.md R76). -/
def State.fetchByte (s : State) (a : Word) (k : Nat) : Byte := (s.fetchBytes a k).peek (a + BitVec.ofNat 16 k)

/-- The instruction at `PC`. The decode of a byte list reads only the instruction's first `bytesRead` bytes (30_encoding.md R91), and
only those are fetched (log 12). -/
def State.nextInstr (s : State) : Instr :=
  decodeBytes (s.fetchByte s.pc 0) (s.fetchByte s.pc 1) (s.fetchByte s.pc 2) (s.fetchByte s.pc 3)

/-- The instruction a mode-0 acceptance runs: `data`, its further bytes fetched from `PC` on (60_exceptions.md R546; D20). -/
def State.injectedInstr (s : State) (data : Byte) : Instr :=
  decodeBytes data (s.fetchByte s.pc 0) (s.fetchByte s.pc 1) (s.fetchByte s.pc 2)

/-- The base cost that a mode-0 acceptance adds: a prefix handler's, or the main plane's if the parameter says so (D21; log 13). -/
def State.injectedCost (s : State) (data : Byte) : Nat :=
  (handlerCost s.params data (s.fetchByte s.pc 0) (s.fetchByte s.pc 2)).getD
    (if s.params.im0AddsBaseCost then Config.cycleCountsMain data else 0)

/-- Steps 1 to 3 of the step, with the increments and costs of the prefix handlers: clear the pending flags, count `R`, fetch
the instruction's bytes, add its base cost (40_fetch_decode.md R130, R131, R139). What a meaning runs on. -/
def State.fetched (s : State) : State :=
  let b0 := s.fetchByte s.pc 0
  let b1 := s.fetchByte s.pc 1
  let op := s.fetchByte s.pc 3
  let s1 := { s with pendingDi := false, pendingEi := false }
  let s2 := s1.bumpR (opcodeBytes b0 b1)
  let s3 := s2.fetchBytes s.pc s.nextInstr.bytesRead
  s3.addCyc (baseCost s.params b0 b1 op)

/-- Steps 5 and 6 of the step: the delayed commit, then return `cyc` and clear it (40_fetch_decode.md R130, R138). -/
def State.finishStep (s : State) (di ei : Bool) : State :=
  let s1 := s.commit di ei
  { s1 with stepReturn := s1.cyc, cyc := 0 }

/-- `step_instruction()` (40_fetch_decode.md R130). A halted tick returns 1 and changes nothing else (D33). -/
def stepInstruction (s : State) : Out :=
  if s.halted then .next { s with stepReturn := 1 }
  else
    match exec s.nextInstr s.fetched with
    | .next t => .next (t.finishStep s.pendingDi s.pendingEi)
    | .fault f => .fault f
    | .refused f => .refused f

/-- Mode 0: execute `data` as an instruction at `a = PC - 1` (60_exceptions.md R546). Its opcode byte is not fetched, its further
bytes are, at `PC`, `PC + 1`, ... (D20); only a prefix handler increments `R` again; the cost is 2, the handler's cost, and
the main-plane base cost if the parameter says so (D21; log 13). -/
def enterMode0 (data : Byte) (s : State) : Out :=
  let a := s.pc - 1
  let i := s.injectedInstr data
  let s1 := (s.bumpR (opcodeBytes data (s.fetchByte s.pc 0) - 1)).fetchBytes s.pc (i.bytesRead - 1)
  match exec i ((s1.setPc a).addCyc (s.injectedCost data)) with
  | .next t => .next (t.addCyc 2)
  | .fault f => .fault f
  | .refused f => .refused f

/-- `irq(non_maskable, data)` (60_exceptions.md R541 to R548). -/
def irq (nonMaskable : Bool) (data : Byte) (s : State) : Out :=
  if nonMaskable then .next (acceptNmi s)
  else if s.iff1 then
    let s1 := acceptMaskable s
    match s1.im with
    | .im0 => enterMode0 data s1
    | .im1 => .next (enterMode1 s1)
    | .im2 => .next (enterMode2 data s1)
  else .next s

/-- One call of the host (60_exceptions.md R541; 70_reset_and_hazards.md R580). -/
def perform (call : HostCall) (s : State) : Out :=
  match call with
  | .stepInstruction => stepInstruction s
  | .irq nonMaskable data => irq nonMaskable data s
  | .reset => .next (resetPort s)

/-- The host's next call; with none scheduled it calls `step_instruction` (log 8). -/
def performNext (s : State) : Out :=
  match s.schedule with
  | [] => stepInstruction s
  | call :: rest => perform call { s with schedule := rest }

/-- The four addresses from `a` on. -/
def fourFrom (a : Word) : List Word := [a, a + 1, a + 2, a + 3]

/-- RAM regions for those of the four addresses from `PC` on that lie in a device region, where no cell answers a fetch. -/
def State.cellsAtPc (s : State) : List Config.Region :=
  ((fourFrom s.pc).filter s.isDevice).map fun a => { first := a, last := a, kind := .ram }

/-- Bytes placed in memory from `a` on by the host, outside any step. -/
def placeBytes (m : Memory) (a : Word) : List Byte → Memory
  | [] => m
  | v :: vs => placeBytes (m.write a.toNat v) (a + 1) vs

end Sys2Proof.Machine
end

