-- ==== Sys2Proof/Machine/Step.lean ====
section
/-! DEFINITION. The step of the machine, and the placing of an instruction where the next step fetches it. -/

namespace Sys2Proof.Machine

/-- One step of the whole: the host's next call, performed (log 8). -/
def step (s : State) : Host.Outcome State Fault Refusal := performNext s

/-- `s` with the instruction of an opcode-table word stored at `PC`, the block running and the host's next call
`step_instruction()`, so that the next step fetches and runs exactly that instruction (log 11). Where the memory map puts a
device at `PC` it is made to answer from memory there. -/
def State.withFetchWord (s : State) (nbits w : Nat) : State :=
  { s with
      mem := placeBytes s.mem s.pc (tableBytes nbits w)
      params := { s.params with memMap := s.cellsAtPc ++ s.params.memMap }
      halted := false
      schedule := .stepInstruction :: s.schedule }

end Sys2Proof.Machine
end

