-- ==== Sys2Proof/Safety.lean ====
section
/-! DEFINITION. What counts as a safe run, and the words the statements use: the slots a frame speaks of, the bytes a list of bus
operations stores, completion with a frame, the operand forms as data, and the tables of the whole-machine rules (where `PC`
goes, which T-states are added, which addresses are stored to). None of it is used by the machine. -/

namespace Sys2Proof.Machine

/-- An outcome is safe if the machine goes on (60_exceptions.md R540: "A model has no fault outcome for any instruction"). -/
def Safe (o : Out) : Prop := ∃ t, o = .next t

/-! ### Slots: every register, flag and flip-flop under one name -/

/-- A register, half register, flag or flip-flop of the block; `sA` to `sL` are the shadow bank. Memory, the bus and the host's
fields are not slots. -/
inductive Slot where
  | a | b | c | d | e | h | l
  | fS | fZ | fY | fH | fX | fP | fN | fC
  | sA | sF | sB | sC | sD | sE | sH | sL
  | ixh | ixl | iyh | iyl | sp | pc | i | r
  | iff1 | iff2 | im | halted | pendingDi | pendingEi | cyc
  deriving DecidableEq, Repr

/-- The interrupt mode as its number (10_state.md R34). -/
def IntMode.num : IntMode → Nat
  | .im0 => 0
  | .im1 => 1
  | .im2 => 2

/-- What a slot holds, as a number. -/
def State.slot (s : State) : Slot → Nat
  | .a => s.main.a.toNat
  | .b => s.main.b.toNat
  | .c => s.main.c.toNat
  | .d => s.main.d.toNat
  | .e => s.main.e.toNat
  | .h => s.main.h.toNat
  | .l => s.main.l.toNat
  | .fS => s.flags.s.toNat
  | .fZ => s.flags.z.toNat
  | .fY => s.flags.y.toNat
  | .fH => s.flags.h.toNat
  | .fX => s.flags.x.toNat
  | .fP => s.flags.p.toNat
  | .fN => s.flags.n.toNat
  | .fC => s.flags.c.toNat
  | .sA => s.shadow.a.toNat
  | .sF => s.shadow.f.toNat
  | .sB => s.shadow.b.toNat
  | .sC => s.shadow.c.toNat
  | .sD => s.shadow.d.toNat
  | .sE => s.shadow.e.toNat
  | .sH => s.shadow.h.toNat
  | .sL => s.shadow.l.toNat
  | .ixh => (wordHi s.ix).toNat
  | .ixl => (wordLo s.ix).toNat
  | .iyh => (wordHi s.iy).toNat
  | .iyl => (wordLo s.iy).toNat
  | .sp => s.sp.toNat
  | .pc => s.pc.toNat
  | .i => s.i.toNat
  | .r => s.r.toNat
  | .iff1 => s.iff1.toNat
  | .iff2 => s.iff2.toNat
  | .im => s.im.num
  | .halted => s.halted.toNat
  | .pendingDi => s.pendingDi.toNat
  | .pendingEi => s.pendingEi.toNat
  | .cyc => s.cyc

/-- All eight flags. -/
def allFlags : List Slot := [.fS, .fZ, .fY, .fH, .fX, .fP, .fN, .fC]

/-- All flags but `C`. -/
def flagsButC : List Slot := [.fS, .fZ, .fY, .fH, .fX, .fP, .fN]

/-- The flags `Y H X N C`: what the accumulator rotates, `SCF`, `CCF` and the 16-bit `ADD` write. -/
def flagsYHXNC : List Slot := [.fY, .fH, .fX, .fN, .fC]

/-- The slot of a register. -/
def regSlot : Reg8 → Slot
  | .b => .b
  | .c => .c
  | .d => .d
  | .e => .e
  | .h => .h
  | .l => .l
  | .a => .a

/-- The slots of a pair. -/
def pairSlots : Pair → List Slot
  | .bc => [.b, .c]
  | .de => [.d, .e]
  | .hl => [.h, .l]
  | .sp => [.sp]

/-- The slots of a stacked pair. -/
def pairQSlots : PairQ → List Slot
  | .bc => [.b, .c]
  | .de => [.d, .e]
  | .hl => [.h, .l]
  | .af => .a :: allFlags

/-- The slot of one half of an index register. -/
def halfSlot : Index → Half → Slot
  | .ix, .high => .ixh
  | .ix, .low => .ixl
  | .iy, .high => .iyh
  | .iy, .low => .iyl

/-- Both slots of an index register. -/
def indexSlots (x : Index) : List Slot := [halfSlot x .high, halfSlot x .low]

/-- Every slot outside `ws` holds what it held. -/
def SameSlots (ws : List Slot) (s t : State) : Prop := ∀ x, x ∉ ws → t.slot x = s.slot x

/-- The host's side is as it was: parameters, calls to come, the last return value, free bits drawn. -/
def SameHost (s t : State) : Prop :=
  t.params = s.params ∧ t.schedule = s.schedule ∧ t.stepReturn = s.stepReturn ∧ t.freeCount = s.freeCount

/-! ### What a list of bus operations does -/

/-- The byte the operations, oldest first, leave at an address they store to; `none` where they store nothing. -/
def wrote : List BusOp → Word → Option Byte
  | [], _ => none
  | .memWrite k v :: ops, a => (wrote ops a).or (if k = a then some v else none)
  | .memRead _ _ :: ops, a => wrote ops a
  | .ioRead _ _ :: ops, a => wrote ops a
  | .ioWrite _ _ :: ops, a => wrote ops a

/-- How many of the operations take one of the host's prepared answers: the reads of ports and of device regions. -/
def answersTaken (p : Config.Params) : List BusOp → Nat
  | [] => 0
  | .ioRead _ _ :: ops => answersTaken p ops + 1
  | .memRead a _ :: ops => answersTaken p ops + if p.kindAt a = .device then 1 else 0
  | .memWrite _ _ :: ops => answersTaken p ops
  | .ioWrite _ _ :: ops => answersTaken p ops

/-- `t` is `s` after exactly the operations `ops`, oldest first, and with no slot outside `ws` changed: the bus saw them in that
order and nothing else; EVERY address of RAM reads what they last stored there, or as before; EVERY address of ROM reads as before.
What a device region answers next is the host's (20_memory.md R61). -/
def Changed (ws : List Slot) (ops : List BusOp) (s t : State) : Prop :=
  SameSlots ws s t ∧ SameHost s t ∧ t.bus = ops.reverse ++ s.bus ∧
    (∀ a : Word, s.isDevice a = false → t.peek a = if s.writable a then (wrote ops a).getD (s.peek a) else s.peek a) ∧
      t.hostAnswers = s.hostAnswers.drop (answersTaken s.params ops)

/-- `i`, run on `s`, ANSWERS A NEXT STATE, which is `s` but for the slots `ws` and the operations `ops`, and of which `post`
holds. -/
def Completes (i : Instr) (s : State) (ws : List Slot) (ops : List BusOp) (post : State → Prop) : Prop :=
  ∃ t, exec i s = .next t ∧ Changed ws ops s t ∧ post t

/-- What the second of two reads, at `a` and then at `a + 1`, answers. -/
def State.peekNext (s : State) (a : Word) : Byte := (s.memRead a).2.peek (a + 1)

/-- The operations of a 16-bit read at `a` (00_scope.md R10). -/
def read16Ops (s : State) (a : Word) : List BusOp := [.memRead a (s.peek a), .memRead (a + 1) (s.peekNext a)]

/-- The operations of a 16-bit store at `a` (00_scope.md R10). -/
def write16Ops (a v : Word) : List BusOp := [.memWrite a (wordLo v), .memWrite (a + 1) (wordHi v)]

/-- The operations of a push (00_scope.md R11). -/
def pushOps (s : State) (v : Word) : List BusOp :=
  [.memWrite (s.sp - 1) (wordHi v), .memWrite (s.sp - 2) (wordLo v)]

/-- The word two reads from `a` on answer, low byte first (20_memory.md R67). -/
def State.word (s : State) (a : Word) : Word := mkWord (s.peekNext a) (s.peek a)

/-- The byte `v` stored at `a` reads back, where the host memory is RAM (20_memory.md R61: only the host decides that). -/
def Stored8 (t : State) (a : Word) (v : Byte) : Prop := t.writable a = true → t.peek a = v

/-- The word `v` stored at `a` reads back, where the host memory is RAM. -/
def Stored16 (t : State) (a v : Word) : Prop := t.writable a = true → t.writable (a + 1) = true → t.word a = v

/-! ### Flags in the spec's own words -/

/-- "`S,Z,Y,X from v`" (10_state.md R28). -/
def SzyxFrom (v : Byte) (g : Flags) : Prop :=
  g.s = v.getLsbD 7 ∧ (g.z = true ↔ v = 0) ∧ g.y = v.getLsbD 5 ∧ g.x = v.getLsbD 3

/-- The number of 1 bits is even (00_scope.md R12). -/
def EvenOnes (v : Byte) : Prop := ((List.range 8).filter fun k => v.getLsbD k).length % 2 = 0

/-- The signed value does not fit in `n` bits. -/
def SignedOverflow (n : Nat) (v : Int) : Prop := v < -(2 : Int) ^ (n - 1) ∨ (2 : Int) ^ (n - 1) ≤ v

/-- The flags of `a - x - c`, with `X` and `Y` from `xy` (43_alu8.md R231, R235). -/
def SubFlags (a x : Byte) (c : Nat) (xy : Byte) (g : Flags) : Prop :=
  let r : Byte := BitVec.ofInt 8 ((a.toNat : Int) - x.toNat - c)
  g.s = r.getLsbD 7 ∧ (g.z = true ↔ r = 0) ∧ g.y = xy.getLsbD 5 ∧ g.x = xy.getLsbD 3 ∧
    (g.h = true ↔ a.toNat % 16 < x.toNat % 16 + c) ∧ (g.p = true ↔ SignedOverflow 8 (a.toInt - x.toInt - c)) ∧
    g.n = true ∧ (g.c = true ↔ a.toNat < x.toNat + c)

/-- The flags of a logical result `r` (43_alu8.md R232 to R234). -/
def LogicFlags (r : Byte) (h : Bool) (g : Flags) : Prop :=
  SzyxFrom r g ∧ g.h = h ∧ (g.p = true ↔ EvenOnes r) ∧ g.n = false ∧ g.c = false

/-- The kinds that move bits up. -/
def shiftsLeft : ShiftKind → Bool
  | .rlc => true
  | .rl => true
  | .sla => true
  | .sll => true
  | .rrc => false
  | .rr => false
  | .sra => false
  | .srl => false

/-- The bit a kind moves in (45_rotate_shift_bit.md R300, the source's wording). -/
def shiftIn (k : ShiftKind) (x : Byte) (c : Bool) : Bool :=
  match k with
  | .rlc => x.getLsbD 7
  | .rrc => x.getLsbD 0
  | .rl => c
  | .rr => c
  | .sla => false
  | .sra => x.getLsbD 7
  | .sll => true
  | .srl => false

/-- `r` and `co` are the result and the carry-out of kind `k` on `x` with incoming carry `c`, bit by bit
(45_rotate_shift_bit.md R300). -/
def ShiftResult (k : ShiftKind) (x : Byte) (c : Bool) (r : Byte) (co : Bool) : Prop :=
  if shiftsLeft k then
    co = x.getLsbD 7 ∧ r.getLsbD 0 = shiftIn k x c ∧ ∀ j < 7, r.getLsbD (j + 1) = x.getLsbD j
  else
    co = x.getLsbD 0 ∧ r.getLsbD 7 = shiftIn k x c ∧ ∀ j < 7, r.getLsbD j = x.getLsbD (j + 1)

/-- `r` is `x` with bit `b` made `v` and every other bit kept (45_rotate_shift_bit.md R302). -/
def BitSetTo (b : Field3) (v : Bool) (x r : Byte) : Prop :=
  ∀ j < 8, r.getLsbD j = if j = b.toNat then v else x.getLsbD j

/-! ### Operand forms as data -/

/-- The source operand of an accumulator operation. -/
inductive Source where
  | reg (r : Reg8)
  | imm (n : Byte)
  | indHl
  | half (x : Index) (h : Half)
  | indexed (x : Index) (d : Byte)
  deriving DecidableEq, Repr

/-- The operand's value. -/
def Source.value (o : Source) (s : State) : Byte :=
  match o with
  | .reg r => s.reg r
  | .imm n => n
  | .indHl => s.peek s.main.hl
  | .half x h => s.half x h
  | .indexed x d => s.peek (s.indexed x d)

/-- The data reads the operand costs. -/
def Source.reads (o : Source) (s : State) : List BusOp :=
  match o with
  | .reg _ => []
  | .imm _ => []
  | .indHl => [.memRead s.main.hl (s.peek s.main.hl)]
  | .half _ _ => []
  | .indexed x d => [.memRead (s.indexed x d) (s.peek (s.indexed x d))]

/-- The instruction's length with this operand. -/
def Source.length : Source → Word
  | .reg _ => 1
  | .imm _ => 2
  | .indHl => 1
  | .half _ _ => 2
  | .indexed _ _ => 3

/-- The instruction of an operation on a register. -/
def aluOnReg (r : Reg8) : AluOp → Instr
  | .add => .addAR r
  | .adc => .adcAR r
  | .sub => .subR r
  | .sbc => .sbcAR r
  | .and => .andR r
  | .xor => .xorR r
  | .or => .orR r
  | .cp => .cpR r

/-- The instruction of an operation on an immediate. -/
def aluOnImm (n : Byte) : AluOp → Instr
  | .add => .addAN n
  | .adc => .adcAN n
  | .sub => .subN n
  | .sbc => .sbcAN n
  | .and => .andN n
  | .xor => .xorN n
  | .or => .orN n
  | .cp => .cpN n

/-- The instruction of an operation on `(HL)`. -/
def aluOnIndHl : AluOp → Instr
  | .add => .addAIndHl
  | .adc => .adcAIndHl
  | .sub => .subIndHl
  | .sbc => .sbcAIndHl
  | .and => .andIndHl
  | .xor => .xorIndHl
  | .or => .orIndHl
  | .cp => .cpIndHl

/-- The instruction of an operation on a half of `IX`. -/
def aluOnIxHalf : Half → AluOp → Instr
  | .high, .add => .addAIxh
  | .high, .adc => .adcAIxh
  | .high, .sub => .subIxh
  | .high, .sbc => .sbcAIxh
  | .high, .and => .andIxh
  | .high, .xor => .xorIxh
  | .high, .or => .orIxh
  | .high, .cp => .cpIxh
  | .low, .add => .addAIxl
  | .low, .adc => .adcAIxl
  | .low, .sub => .subIxl
  | .low, .sbc => .sbcAIxl
  | .low, .and => .andIxl
  | .low, .xor => .xorIxl
  | .low, .or => .orIxl
  | .low, .cp => .cpIxl

/-- The instruction of an operation on a half of `IY`. -/
def aluOnIyHalf : Half → AluOp → Instr
  | .high, .add => .addAIyh
  | .high, .adc => .adcAIyh
  | .high, .sub => .subIyh
  | .high, .sbc => .sbcAIyh
  | .high, .and => .andIyh
  | .high, .xor => .xorIyh
  | .high, .or => .orIyh
  | .high, .cp => .cpIyh
  | .low, .add => .addAIyl
  | .low, .adc => .adcAIyl
  | .low, .sub => .subIyl
  | .low, .sbc => .sbcAIyl
  | .low, .and => .andIyl
  | .low, .xor => .xorIyl
  | .low, .or => .orIyl
  | .low, .cp => .cpIyl

/-- The instruction of an operation on `(IX+d)`. -/
def aluOnIndIxd (d : Byte) : AluOp → Instr
  | .add => .addAIndIxd d
  | .adc => .adcAIndIxd d
  | .sub => .subIndIxd d
  | .sbc => .sbcAIndIxd d
  | .and => .andIndIxd d
  | .xor => .xorIndIxd d
  | .or => .orIndIxd d
  | .cp => .cpIndIxd d

/-- The instruction of an operation on `(IY+d)`. -/
def aluOnIndIyd (d : Byte) : AluOp → Instr
  | .add => .addAIndIyd d
  | .adc => .adcAIndIyd d
  | .sub => .subIndIyd d
  | .sbc => .sbcAIndIyd d
  | .and => .andIndIyd d
  | .xor => .xorIndIyd d
  | .or => .orIndIyd d
  | .cp => .cpIndIyd d

/-- The instruction of an accumulator operation on a source: all seventy-two. -/
def aluInstr (op : AluOp) : Source → Instr
  | .reg r => aluOnReg r op
  | .imm n => aluOnImm n op
  | .indHl => aluOnIndHl op
  | .half .ix h => aluOnIxHalf h op
  | .half .iy h => aluOnIyHalf h op
  | .indexed .ix d => aluOnIndIxd d op
  | .indexed .iy d => aluOnIndIyd d op

/-- A byte an instruction reads and writes back; `indexedCopy` also copies the byte written to a register. -/
inductive Place where
  | reg (r : Reg8)
  | indHl
  | half (x : Index) (h : Half)
  | indexed (x : Index) (d : Byte)
  | indexedCopy (x : Index) (d : Byte) (r : Reg8)
  deriving DecidableEq, Repr

/-- The byte the place holds. -/
def Place.value (p : Place) (s : State) : Byte :=
  match p with
  | .reg r => s.reg r
  | .indHl => s.peek s.main.hl
  | .half x h => s.half x h
  | .indexed x d => s.peek (s.indexed x d)
  | .indexedCopy x d _ => s.peek (s.indexed x d)

/-- The register slots written with the place. -/
def Place.slots : Place → List Slot
  | .reg r => [regSlot r]
  | .indHl => []
  | .half x h => [halfSlot x h]
  | .indexed _ _ => []
  | .indexedCopy _ _ r => [regSlot r]

/-- The data reads of the place: one, for a place in memory. -/
def Place.reads (p : Place) (s : State) : List BusOp :=
  match p with
  | .reg _ => []
  | .indHl => [.memRead s.main.hl (s.peek s.main.hl)]
  | .half _ _ => []
  | .indexed x d => [.memRead (s.indexed x d) (s.peek (s.indexed x d))]
  | .indexedCopy x d _ => [.memRead (s.indexed x d) (s.peek (s.indexed x d))]

/-- The data writes of `v` to the place: one, for a place in memory, also when the value is the one read (20_memory.md R72). -/
def Place.writes (p : Place) (s : State) (v : Byte) : List BusOp :=
  match p with
  | .reg _ => []
  | .indHl => [.memWrite s.main.hl v]
  | .half _ _ => []
  | .indexed x d => [.memWrite (s.indexed x d) v]
  | .indexedCopy x d _ => [.memWrite (s.indexed x d) v]

/-- After an instruction on `s`, the place holds `v` in `t`; the register copy too, if there is one. -/
def Place.Holds (p : Place) (s t : State) (v : Byte) : Prop :=
  match p with
  | .reg r => t.reg r = v
  | .indHl => Stored8 t s.main.hl v
  | .half x h => t.half x h = v
  | .indexed x d => Stored8 t (s.indexed x d) v
  | .indexedCopy x d r => Stored8 t (s.indexed x d) v ∧ t.reg r = v

/-- The length of a CB-plane or composite-plane instruction on the place. -/
def Place.cbLength : Place → Word
  | .reg _ => 2
  | .indHl => 2
  | .half _ _ => 2
  | .indexed _ _ => 4
  | .indexedCopy _ _ _ => 4

/-- The length of an `INC` or `DEC` of the place. -/
def Place.incLength : Place → Word
  | .reg _ => 1
  | .indHl => 1
  | .half _ _ => 2
  | .indexed _ _ => 3
  | .indexedCopy _ _ _ => 3

/-- The 8-bit `INC` of the place, if there is one. -/
def incInstr : Place → Option Instr
  | .reg r => some (.incR r)
  | .indHl => some .incIndHl
  | .half .ix .high => some .incIxh
  | .half .ix .low => some .incIxl
  | .half .iy .high => some .incIyh
  | .half .iy .low => some .incIyl
  | .indexed .ix d => some (.incIndIxd d)
  | .indexed .iy d => some (.incIndIyd d)
  | .indexedCopy _ _ _ => none

/-- The 8-bit `DEC` of the place, if there is one. -/
def decInstr : Place → Option Instr
  | .reg r => some (.decR r)
  | .indHl => some .decIndHl
  | .half .ix .high => some .decIxh
  | .half .ix .low => some .decIxl
  | .half .iy .high => some .decIyh
  | .half .iy .low => some .decIyl
  | .indexed .ix d => some (.decIndIxd d)
  | .indexed .iy d => some (.decIndIyd d)
  | .indexedCopy _ _ _ => none

/-- The shift or rotate of the place, if there is one: forty-eight constructors. -/
def shiftInstr (k : ShiftKind) : Place → Option Instr
  | .half _ _ => none
  | .reg r =>
    some (match k with
      | .rlc => .rlcR r
      | .rrc => .rrcR r
      | .rl => .rlR r
      | .rr => .rrR r
      | .sla => .slaR r
      | .sra => .sraR r
      | .sll => .sllR r
      | .srl => .srlR r)
  | .indHl =>
    some (match k with
      | .rlc => .rlcIndHl
      | .rrc => .rrcIndHl
      | .rl => .rlIndHl
      | .rr => .rrIndHl
      | .sla => .slaIndHl
      | .sra => .sraIndHl
      | .sll => .sllIndHl
      | .srl => .srlIndHl)
  | .indexed .ix d =>
    some (match k with
      | .rlc => .rlcIndIxd d
      | .rrc => .rrcIndIxd d
      | .rl => .rlIndIxd d
      | .rr => .rrIndIxd d
      | .sla => .slaIndIxd d
      | .sra => .sraIndIxd d
      | .sll => .sllIndIxd d
      | .srl => .srlIndIxd d)
  | .indexed .iy d =>
    some (match k with
      | .rlc => .rlcIndIyd d
      | .rrc => .rrcIndIyd d
      | .rl => .rlIndIyd d
      | .rr => .rrIndIyd d
      | .sla => .slaIndIyd d
      | .sra => .sraIndIyd d
      | .sll => .sllIndIyd d
      | .srl => .srlIndIyd d)
  | .indexedCopy .ix d r =>
    some (match k with
      | .rlc => .rlcIndIxdR d r
      | .rrc => .rrcIndIxdR d r
      | .rl => .rlIndIxdR d r
      | .rr => .rrIndIxdR d r
      | .sla => .slaIndIxdR d r
      | .sra => .sraIndIxdR d r
      | .sll => .sllIndIxdR d r
      | .srl => .srlIndIxdR d r)
  | .indexedCopy .iy d r =>
    some (match k with
      | .rlc => .rlcIndIydR d r
      | .rrc => .rrcIndIydR d r
      | .rl => .rlIndIydR d r
      | .rr => .rrIndIydR d r
      | .sla => .slaIndIydR d r
      | .sra => .sraIndIydR d r
      | .sll => .sllIndIydR d r
      | .srl => .srlIndIydR d r)

/-- `BIT b` of the place, if there is one; `z` is the unused register field of the composite form. -/
def bitInstr (b z : Field3) : Place → Option Instr
  | .reg r => some (.bitBR b r)
  | .indHl => some (.bitBIndHl b)
  | .indexed .ix d => some (.bitBIndIxd b d z)
  | .indexed .iy d => some (.bitBIndIyd b d z)
  | .half _ _ => none
  | .indexedCopy _ _ _ => none

/-- `RES b` of the place, if there is one. -/
def resInstr (b : Field3) : Place → Option Instr
  | .reg r => some (.resBR b r)
  | .indHl => some (.resBIndHl b)
  | .indexed .ix d => some (.resBIndIxd b d)
  | .indexed .iy d => some (.resBIndIyd b d)
  | .indexedCopy .ix d r => some (.resBIndIxdR b d r)
  | .indexedCopy .iy d r => some (.resBIndIydR b d r)
  | .half _ _ => none

/-- `SET b` of the place, if there is one. -/
def setInstr (b : Field3) : Place → Option Instr
  | .reg r => some (.setBR b r)
  | .indHl => some (.setBIndHl b)
  | .indexed .ix d => some (.setBIndIxd b d)
  | .indexed .iy d => some (.setBIndIyd b d)
  | .indexedCopy .ix d r => some (.setBIndIxdR b d r)
  | .indexedCopy .iy d r => some (.setBIndIydR b d r)
  | .half _ _ => none

/-! ### Tables of the whole-machine rules -/

/-- Where `PC` stands after the instruction: past it, but for the control transfers, the returns, `JP (XY)` and the repeating block
instructions (10_state.md R26). -/
def nextPc (i : Instr) (s : State) : Word :=
  match i with
  | .jr e => relTarget s.pc e
  | .jrCc cc e => if s.cond cc then relTarget s.pc e else s.pc + 2
  | .djnz e => if s.main.b = 1 then s.pc + 2 else relTarget s.pc e
  | .jpNn nn => nn
  | .jpCcNn cc nn => if s.cond cc then nn else s.pc + 3
  | .jpIndHl => s.main.hl
  | .jpIndIx => s.ix
  | .jpIndIy => s.iy
  | .callNn nn => nn
  | .callCcNn cc nn => if s.cond cc then nn else s.pc + 3
  | .rstP t => BitVec.ofNat 16 (8 * t.toNat)
  | .ret => s.word s.sp
  | .reti => s.word s.sp
  | .retn _ => s.word s.sp
  | .retCc cc => if s.cond cc then s.word s.sp else s.pc + 1
  | .ldir => if s.main.bc = 1 then s.pc + 2 else s.pc
  | .lddr => if s.main.bc = 1 then s.pc + 2 else s.pc
  | .cpir => if s.main.bc = 1 ∨ s.main.a = s.peek s.main.hl then s.pc + 2 else s.pc
  | .cpdr => if s.main.bc = 1 ∨ s.main.a = s.peek s.main.hl then s.pc + 2 else s.pc
  | .inir => if s.main.b = 1 ∧ (s.params.ioBlockRepeatOnBc → s.main.c = 0) then s.pc + 2 else s.pc
  | .indr => if s.main.b = 1 ∧ (s.params.ioBlockRepeatOnBc → s.main.c = 0) then s.pc + 2 else s.pc
  | .otir => if s.main.b = 1 ∧ (s.params.ioBlockRepeatOnBc → s.main.c = 0) then s.pc + 2 else s.pc
  | .otdr => if s.main.b = 1 ∧ (s.params.ioBlockRepeatOnBc → s.main.c = 0) then s.pc + 2 else s.pc
  | i => s.pc + BitVec.ofNat 16 i.length

/-- The instructions that repeat while their condition is not met (48_block.md R447). -/
def repeats : Instr → Bool
  | .ldir => true
  | .lddr => true
  | .cpir => true
  | .cpdr => true
  | .inir => true
  | .indr => true
  | .otir => true
  | .otdr => true
  | _ => false

/-- The conditional T-states on top of the base cost (70_reset_and_hazards.md R598). -/
def extraCost (i : Instr) (s : State) : Nat :=
  match i with
  | .jrCc cc _ => if s.cond cc then 5 else 0
  | .djnz _ => if s.main.b = 1 then 0 else 5
  | .callCcNn cc _ => if s.cond cc then 7 else 0
  | .retCc cc => if s.cond cc then 6 else 0
  | i => if repeats i = true ∧ nextPc i s = s.pc then 5 else 0

/-- The addresses an instruction stores a byte to. -/
def storeAddrs (i : Instr) (s : State) : List Word :=
  match i with
  | .ldIndHlR _ => [s.main.hl]
  | .ldIndHlN _ => [s.main.hl]
  | .ldIndBcA => [s.main.bc]
  | .ldIndDeA => [s.main.de]
  | .ldIndNnA nn => [nn]
  | .ldIndNnHl nn => [nn, nn + 1]
  | .ldIndNnDd nn _ => [nn, nn + 1]
  | .ldIndNnIx nn => [nn, nn + 1]
  | .ldIndNnIy nn => [nn, nn + 1]
  | .pushQq _ => [s.sp - 1, s.sp - 2]
  | .pushIx => [s.sp - 1, s.sp - 2]
  | .pushIy => [s.sp - 1, s.sp - 2]
  | .callNn _ => [s.sp - 1, s.sp - 2]
  | .callCcNn cc _ => if s.cond cc then [s.sp - 1, s.sp - 2] else []
  | .rstP _ => [s.sp - 1, s.sp - 2]
  | .exIndSpHl => [s.sp, s.sp + 1]
  | .exIndSpIx => [s.sp, s.sp + 1]
  | .exIndSpIy => [s.sp, s.sp + 1]
  | .incIndHl => [s.main.hl]
  | .decIndHl => [s.main.hl]
  | .rlcIndHl => [s.main.hl]
  | .rrcIndHl => [s.main.hl]
  | .rlIndHl => [s.main.hl]
  | .rrIndHl => [s.main.hl]
  | .slaIndHl => [s.main.hl]
  | .sraIndHl => [s.main.hl]
  | .sllIndHl => [s.main.hl]
  | .srlIndHl => [s.main.hl]
  | .resBIndHl _ => [s.main.hl]
  | .setBIndHl _ => [s.main.hl]
  | .rld => [s.main.hl]
  | .rrd => [s.main.hl]
  | .ldi => [s.main.de]
  | .ldd => [s.main.de]
  | .ldir => [s.main.de]
  | .lddr => [s.main.de]
  | .ini => [s.main.hl]
  | .ind => [s.main.hl]
  | .inir => [s.main.hl]
  | .indr => [s.main.hl]
  | .ldIndIxdR d _ => [s.indexed .ix d]
  | .ldIndIxdN d _ => [s.indexed .ix d]
  | .incIndIxd d => [s.indexed .ix d]
  | .decIndIxd d => [s.indexed .ix d]
  | .rlcIndIxd d => [s.indexed .ix d]
  | .rrcIndIxd d => [s.indexed .ix d]
  | .rlIndIxd d => [s.indexed .ix d]
  | .rrIndIxd d => [s.indexed .ix d]
  | .slaIndIxd d => [s.indexed .ix d]
  | .sraIndIxd d => [s.indexed .ix d]
  | .sllIndIxd d => [s.indexed .ix d]
  | .srlIndIxd d => [s.indexed .ix d]
  | .rlcIndIxdR d _ => [s.indexed .ix d]
  | .rrcIndIxdR d _ => [s.indexed .ix d]
  | .rlIndIxdR d _ => [s.indexed .ix d]
  | .rrIndIxdR d _ => [s.indexed .ix d]
  | .slaIndIxdR d _ => [s.indexed .ix d]
  | .sraIndIxdR d _ => [s.indexed .ix d]
  | .sllIndIxdR d _ => [s.indexed .ix d]
  | .srlIndIxdR d _ => [s.indexed .ix d]
  | .resBIndIxd _ d => [s.indexed .ix d]
  | .setBIndIxd _ d => [s.indexed .ix d]
  | .resBIndIxdR _ d _ => [s.indexed .ix d]
  | .setBIndIxdR _ d _ => [s.indexed .ix d]
  | .ldIndIydR d _ => [s.indexed .iy d]
  | .ldIndIydN d _ => [s.indexed .iy d]
  | .incIndIyd d => [s.indexed .iy d]
  | .decIndIyd d => [s.indexed .iy d]
  | .rlcIndIyd d => [s.indexed .iy d]
  | .rrcIndIyd d => [s.indexed .iy d]
  | .rlIndIyd d => [s.indexed .iy d]
  | .rrIndIyd d => [s.indexed .iy d]
  | .slaIndIyd d => [s.indexed .iy d]
  | .sraIndIyd d => [s.indexed .iy d]
  | .sllIndIyd d => [s.indexed .iy d]
  | .srlIndIyd d => [s.indexed .iy d]
  | .rlcIndIydR d _ => [s.indexed .iy d]
  | .rrcIndIydR d _ => [s.indexed .iy d]
  | .rlIndIydR d _ => [s.indexed .iy d]
  | .rrIndIydR d _ => [s.indexed .iy d]
  | .slaIndIydR d _ => [s.indexed .iy d]
  | .sraIndIydR d _ => [s.indexed .iy d]
  | .sllIndIydR d _ => [s.indexed .iy d]
  | .srlIndIydR d _ => [s.indexed .iy d]
  | .resBIndIyd _ d => [s.indexed .iy d]
  | .setBIndIyd _ d => [s.indexed .iy d]
  | .resBIndIydR _ d _ => [s.indexed .iy d]
  | .setBIndIydR _ d _ => [s.indexed .iy d]
  | _ => []

/-- The unrecognised ED second bytes (40_fetch_decode.md R135). -/
def isEdNop : Instr → Bool
  | .edNop00 _ => true
  | .edNop77 => true
  | .edNop7F => true
  | .edNop80 _ => true
  | .edNopA4 _ => true
  | .edNopC0 _ => true
  | _ => false

/-- The second bytes of the DD/FD plane (30_encoding.md R103, the table's entries). -/
def xySecondBytes : List Nat :=
  [0x09, 0x19, 0x29, 0x39, 0x21, 0x22, 0x2A, 0x23, 0x2B, 0x24, 0x2C, 0x25, 0x2D, 0x26, 0x2E, 0x34, 0x35, 0x36] ++
    [0x46, 0x4E, 0x56, 0x5E, 0x66, 0x6E, 0x7E, 0x70, 0x71, 0x72, 0x73, 0x74, 0x75, 0x77] ++
    [0x44, 0x4C, 0x54, 0x5C, 0x7C, 0x45, 0x4D, 0x55, 0x5D, 0x7D, 0x60, 0x61, 0x62, 0x63, 0x67] ++
    [0x64, 0x65, 0x68, 0x69, 0x6A, 0x6B, 0x6F, 0x6C, 0x6D] ++
    [0x84, 0x8C, 0x94, 0x9C, 0xA4, 0xAC, 0xB4, 0xBC, 0x85, 0x8D, 0x95, 0x9D, 0xA5, 0xAD, 0xB5, 0xBD] ++
    [0x86, 0x8E, 0x96, 0x9E, 0xA6, 0xAE, 0xB6, 0xBE, 0xCB, 0xE1, 0xE3, 0xE5, 0xE9, 0xF9]

/-- How many opcode bytes the instruction counts in `R`: two for every plane but the main one, one for the main plane and for a lone
prefix (40_fetch_decode.md R131). -/
def opcodeCount (i : Instr) : Nat :=
  match encode i with
  | b :: _ :: _ => if b = 0xCB ∨ b = 0xED ∨ b = 0xDD ∨ b = 0xFD then 2 else 1
  | _ => 1

/-- The bytes `n` reads from `a` on answer. -/
def State.bytesAt (s : State) (a : Word) : Nat → List Byte
  | 0 => []
  | n + 1 => s.peek a :: (s.memRead a).2.bytesAt (a + 1) n

/-- The operations that fetch `n` bytes from `a` on, oldest first. -/
def fetchOps (s : State) (a : Word) : Nat → List BusOp
  | 0 => []
  | n + 1 => .memRead a (s.peek a) :: fetchOps (s.memRead a).2 (a + 1) n

/-- The base cost of the instruction at `PC` (40_fetch_decode.md R139). -/
def stepCost (s : State) : Nat :=
  baseCost s.params (s.fetchByte s.pc 0) (s.fetchByte s.pc 1) (s.fetchByte s.pc 3)

/-- `i` executed `n` times over, each from where the one before left off. -/
def execTimes (i : Instr) : Nat → State → Out
  | 0, s => .next s
  | n + 1, s =>
    match exec i s with
    | .next t => execTimes i n t
    | .fault e => .fault e
    | .refused e => .refused e

/-- How many bytes `LDIR` moves: `BC`, or 65536 for `BC = 0` (48_block.md R433). -/
def blockCount (s : State) : Nat := if s.main.bc = 0 then 0x10000 else s.main.bc.toNat

/-- The instruction is `DD`- or `FD`-prefixed. -/
def indexPrefixed (i : Instr) : Bool :=
  match encode i with
  | b :: _ => b == 0xDD || b == 0xFD
  | [] => false

/-- `s` with `IX` and `IY` exchanged (49_index.md R460). -/
def State.swapIndex (s : State) : State := { s with ix := s.iy, iy := s.ix }

/-- What `f` makes of a next state; a stop stays as it is. -/
def onNext (f : State → State) : Out → Out
  | .next t => .next (f t)
  | .fault e => .fault e
  | .refused e => .refused e

/-- `s` without its T-state accounting. -/
def State.dropCyc (s : State) : State := { s with cyc := 0, stepReturn := 0 }

/-- `s` with the flags `X` and `Y` cleared. -/
def State.dropXY (s : State) : State := s.setFlags { s.flags with x := false, y := false }

/-- Packed decimal: both digits of the byte are at most 9. -/
def Bcd (v : Byte) : Prop := v.toNat % 16 ≤ 9 ∧ v.toNat / 16 ≤ 9

/-- The number a packed decimal byte writes. -/
def bcdValue (v : Byte) : Nat := 10 * (v.toNat / 16) + v.toNat % 16

end Sys2Proof.Machine
end

