-- ==== Sys2Proof/Certificates/Slice0/Obligations.lean ====
section
/-! DEFINITION. The statements for the provers, from the numbered rules of the spec. The words they use are in Safety.lean:
`Completes i s ws ops post` says that `exec i s` answers a next state, that only the slots `ws` changed, that the bus saw exactly
`ops` (oldest first) and every address reads what they stored or as before, and that `post` holds of the next state. A meaning runs
with `PC` at the instruction's first byte (00_scope.md R13). -/

open Sys2Proof Sys2Proof.Machine

/-! ### Encoding -/

/-- Decode after encode (30_encoding.md R91, R93 to R105), every well-formed instruction at every operand. A lone `DD` or `FD` is its
own encoding only before a byte the DD/FD plane does not recognise, and is stated with that byte. Which words an instruction has is the
spec's own decision, D1 to D3 for the opcode numbers and D4 for the order of operand bytes (log 19). -/
def Obligations.DecodeOfEncodeIsTheInstruction : Prop :=
  (∀ i : Instr, WellFormed i → i ≠ .loneDd → i ≠ .loneFd → ∀ rest, decode (encode i ++ rest) = .ok (i, rest)) ∧
    ∀ (b : Byte) (rest : List Byte), xyRecognised b = false →
      decode (encode .loneDd ++ b :: rest) = .ok (.loneDd, b :: rest) ∧
        decode (encode .loneFd ++ b :: rest) = .ok (.loneFd, b :: rest)

/-- Encode after decode: any four bytes decode to a well-formed instruction whose encoding is those bytes' first ones, 1 to 4 of them
(30_encoding.md R91, R105: "every byte sequence decodes"). No bit of an encoding is dropped. Which words an instruction has is the spec's
own decision, D1 to D4 (log 19). -/
def Obligations.EncodeOfDecodeIsTheBytes : Prop :=
  ∀ b0 b1 b2 b3 : Byte, let i := decodeBytes b0 b1 b2 b3
    WellFormed i ∧ encode i = [b0, b1, b2, b3].take i.length ∧ 1 ≤ i.length ∧ i.length ≤ 4

/-- The degenerate encodings are exactly the byte sets of 30_encoding.md R102 and R103: an unrecognised ED second byte is a two-byte
no-operation, a `DD` or `FD` before any byte outside the table is an instruction of its own. Which bytes each table recognises are
the spec's own decisions D2 (ED) and D3 (DD/FD), marked inside those rules (log 19). -/
def Obligations.UnrecognisedSecondBytes : Prop :=
  ∀ b1 b2 b3 : Byte, let n := b1.toNat
    (isEdNop (decodeBytes 0xED b1 b2 b3) = true ↔
      n ≤ 0x3F ∨ n = 0x77 ∨ n = 0x7F ∨ (0x80 ≤ n ∧ n ≤ 0x9F) ∨ (0xA4 ≤ n ∧ n ≤ 0xA7) ∨ (0xAC ≤ n ∧ n ≤ 0xAF) ∨
        (0xB4 ≤ n ∧ n ≤ 0xB7) ∨ (0xBC ≤ n ∧ n ≤ 0xBF) ∨ 0xC0 ≤ n) ∧
    (decodeBytes 0xDD b1 b2 b3 = .loneDd ↔ n ∉ xySecondBytes) ∧ (decodeBytes 0xFD b1 b2 b3 = .loneFd ↔ n ∉ xySecondBytes)

/-- A few words written out from the spec's encodings (30_encoding.md R100 to R104), one or two a family, operand bytes free (sanity). Most of
these opcode numbers are the spec's own decisions D1 (main plane), D2 (ED) and D3 (DD/FD), marked inside those rules (log 19). -/
def Obligations.SampleWordsDecode : Prop :=
  ∀ p q : Byte,
    decodeBytes 0x78 p q p = .ldRR .a .b ∧ decodeBytes 0x3E p q p = .ldRN .a p ∧
    decodeBytes 0x21 p q p = .ldDdNn .hl (mkWord q p) ∧ decodeBytes 0xF5 p q p = .pushQq .af ∧
    decodeBytes 0x80 p q p = .addAR .b ∧ decodeBytes 0xFE p q p = .cpN p ∧ decodeBytes 0x27 p q p = .daa ∧
    decodeBytes 0x39 p q p = .addHlSs .sp ∧ decodeBytes 0xCB 0x37 p q = .sllR .a ∧ decodeBytes 0xCB 0x7E p q = .bitBIndHl 7 ∧
    decodeBytes 0xCD p q p = .callNn (mkWord q p) ∧ decodeBytes 0x10 p q p = .djnz p ∧ decodeBytes 0xFF p q p = .rstP 7 ∧
    decodeBytes 0xED 0x78 p q = .inRIndC .a ∧ decodeBytes 0x76 p q p = .halt ∧ decodeBytes 0xED 0xB0 p q = .ldir ∧
    decodeBytes 0xED 0x73 p q = .ldIndNnDd (mkWord q p) .sp ∧ decodeBytes 0xDD 0x7E p q = .ldRIndIxd .a p ∧
    decodeBytes 0xFD 0x36 p q = .ldIndIydN p q ∧ decodeBytes 0xDD 0x65 p q = .ldIxhIxl ∧
    decodeBytes 0xDD 0xCB p 0x30 = .sllIndIxdR p .b ∧ decodeBytes 0xDD 0xEB p q = .loneDd ∧ decodeBytes 0xED 0x00 p q = .edNop00 0

/-- `FD` is `DD` with `IX` and `IY` exchanged around it, for every second byte and operand (49_index.md R460; 40_fetch_decode.md R137). Which
second bytes the two recognise is the spec's own decision D3 (log 19). -/
def Obligations.FdIsDdWithIndexExchanged : Prop :=
  ∀ (b1 b2 b3 : Byte) (s : State),
    exec (decodeBytes 0xFD b1 b2 b3) s = onNext State.swapIndex (exec (decodeBytes 0xDD b1 b2 b3) s.swapIndex)

/-! ### The step -/

/-- A step runs the instruction the bytes at `PC` decode to, on the state the fetch leaves, and then commits and returns
(40_fetch_decode.md R130). `step` is that `step_instruction()` when the host has no other call to make, and when it is the host's next
call; when the host's next call is `irq`, `step` performs exactly that `irq` (60_exceptions.md R541). The schedule of the host's calls is
the model's (log 8). -/
def Obligations.StepRunsTheDecodedInstruction : Prop :=
  (∀ (s : State) (i : Instr) (rest : List Byte) (t : State),
    s.halted = false → decode (s.bytesAt s.pc 4) = .ok (i, rest) → exec i s.fetched = .next t →
      stepInstruction s = .next (t.finishStep s.pendingDi s.pendingEi) ∧ (s.schedule = [] → step s = stepInstruction s)) ∧
    ∀ (s : State) (calls : List HostCall),
      step { s with schedule := .stepInstruction :: calls } = stepInstruction { s with schedule := calls } ∧
        ∀ (nonMaskable : Bool) (data : Byte),
          step { s with schedule := .irq nonMaskable data :: calls } = irq nonMaskable data { s with schedule := calls }

/-- What the fetch does before the instruction's own effect: the pending flags are cleared, `R` counts the opcode bytes in its low seven
bits and keeps bit 7, the bytes the decode reads are read once each in address order, the base cost is added, and nothing else
changes (40_fetch_decode.md R130, R131; 20_memory.md R72, R73, R76). The counts 2 of the composite plane and 1 of a lone prefix are the spec's
own decision D5, the order of operand bytes D9 (log 19); that all fetches come before the instruction's own accesses is log 12. -/
def Obligations.FetchReadsAndCounts : Prop :=
  ∀ s : State, let i := s.nextInstr; let t := s.fetched
    Changed [.r, .pendingDi, .pendingEi, .cyc] (fetchOps s s.pc i.bytesRead) s t ∧
      t.pendingDi = false ∧ t.pendingEi = false ∧ t.cyc = s.cyc + stepCost s ∧
      t.r.toNat % 128 = (s.r.toNat + opcodeCount i) % 128 ∧ t.r.getLsbD 7 = s.r.getLsbD 7

/-- Every instruction of the table completes on every state, leaves `PC` where 10_state.md R26 and the control rules say, and adds
exactly the conditional T-states of 70_reset_and_hazards.md R598 (40_fetch_decode.md R140; 60_exceptions.md R540). The condition codes,
the jumps the source only names and the end of the repeated I/O are the spec's own decisions D26, D28 and D13 (log 19, 6). -/
def Obligations.EveryInstructionCompletes : Prop :=
  ∀ (i : Instr) (s : State),
    ∃ t, exec i s = .next t ∧ t.pc = nextPc i s ∧ t.cyc = s.cyc + extraCost i s ∧ SameHost s t

/-- Every step answers a next state: whatever the host calls, from every state (40_fetch_decode.md R140: "There is no instruction that
can fail, fault, stall or be abandoned part-way"). -/
def Obligations.EveryStepAnswersNext : Prop := ∀ s : State, Safe (step s)

/-- A halted tick returns 1 and changes nothing else (40_fetch_decode.md R130 step 0; the spec's own decision D33). -/
def Obligations.HaltedTickChangesNothing : Prop :=
  ∀ s : State, s.halted = true → s.schedule = [] →
    ∃ t, step s = .next t ∧ t.stepReturn = 1 ∧ SameSlots [] s t ∧ t.mem = s.mem ∧ t.bus = s.bus ∧
      t.hostAnswers = s.hostAnswers ∧ t.params = s.params ∧ t.schedule = [] ∧ t.freeCount = s.freeCount

/-- The delayed commit: what was pending when the step began is committed after its instruction, over any write of its own, and the
pending flags then say what this instruction asked for (10_state.md R36; 40_fetch_decode.md R138). With both pending the two
flip-flops become one and the same free bit (D10; log 7). -/
def Obligations.DelayedEnableAndDisable : Prop :=
  ∀ s : State, s.halted = false → s.schedule = [] →
    ∃ t, step s = .next t ∧
      (s.pendingEi = true → s.pendingDi = false → t.iff1 = true ∧ t.iff2 = true) ∧
      (s.pendingDi = true → s.pendingEi = false → t.iff1 = false ∧ t.iff2 = false) ∧
      (s.pendingDi = true → s.pendingEi = true → t.iff1 = t.iff2) ∧
      (s.pendingDi = false → s.pendingEi = false →
        t.iff2 = s.iff2 ∧ ((∀ y, s.nextInstr ≠ .retn y) → t.iff1 = s.iff1)) ∧
      (t.pendingDi = true ↔ s.nextInstr = .di) ∧ (t.pendingEi = true ↔ s.nextInstr = .ei)

/-- A step that is no halted tick returns everything in `cyc`: what earlier acceptances left, the base cost, the conditional extra of the
instruction as it runs, on the state the fetch leaves; and clears it (40_fetch_decode.md R139; 70_reset_and_hazards.md R596, R598). That
acceptances leave their cost in `cyc` is the spec's own decision D25 (log 19). -/
def Obligations.StepReturnsItsTStates : Prop :=
  ∀ s : State, s.halted = false → s.schedule = [] →
    ∃ t, step s = .next t ∧ t.cyc = 0 ∧ t.stepReturn = s.cyc + stepCost s + extraCost s.nextInstr s.fetched

/-! ### Whole-machine rules -/

/-- Who may write a special register, over every instruction (10_state.md R21, R31 to R36). -/
def Obligations.SpecialRegistersHaveOneWriter : Prop :=
  ∀ (i : Instr) (s t : State), exec i s = .next t →
    (i ≠ .ldIA → t.i = s.i) ∧ (i ≠ .ldRefreshA → t.r = s.r) ∧ ((∀ y, i ≠ .retn y) → t.iff1 = s.iff1) ∧ t.iff2 = s.iff2 ∧
      ((∀ y, i ≠ .im0 y ∧ i ≠ .im1 y ∧ i ≠ .im2 y) → t.im = s.im) ∧ (i ≠ .halt → t.halted = s.halted) ∧
      (i ≠ .di → t.pendingDi = s.pendingDi) ∧ (i ≠ .ei → t.pendingEi = s.pendingEi) ∧
      (i ≠ .exAfAf → t.shadow.a = s.shadow.a ∧ t.shadow.f = s.shadow.f) ∧
      (i ≠ .exx → t.shadow.b = s.shadow.b ∧ t.shadow.c = s.shadow.c ∧ t.shadow.d = s.shadow.d ∧ t.shadow.e = s.shadow.e ∧
        t.shadow.h = s.shadow.h ∧ t.shadow.l = s.shadow.l)

/-- `IX` and `IY` "are read and written only by `DD`- and `FD`-prefixed instructions" (10_state.md R22): any other instruction does the
same whatever they hold, and keeps them. -/
def Obligations.IndexRegistersNeedAPrefix : Prop :=
  ∀ (i : Instr) (s : State) (v w : Word), indexPrefixed i = false →
    exec i { s with ix := v, iy := w } = onNext (fun t => { t with ix := v, iy := w }) (exec i s)

/-- "No instruction reads or writes a shadow register other than those two", `EX AF,AF'` and `EXX` (10_state.md R21). -/
def Obligations.ShadowBankIsIsolated : Prop :=
  ∀ (i : Instr) (s : State) (b : Bank), i ≠ .exAfAf → i ≠ .exx →
    exec i { s with shadow := b } = onNext (fun t => { t with shadow := b }) (exec i s)

/-- "No rule that computes a register, a flag, an address or a bus datum reads it: it is output only": two states that differ in
`cyc` alone step to states that differ in `cyc` and the returned count alone (10_state.md R37). -/
def Obligations.CycIsOutputOnly : Prop :=
  ∀ (s : State) (n m : Nat), onNext State.dropCyc (step { s with cyc := n, stepReturn := m }) = onNext State.dropCyc (step s)

/-- "`F.X` and `F.Y` are read only through `PUSH AF` and `EX AF,AF'`" (10_state.md R29): any other instruction does the same whatever the two
flags hold, but for the two flags themselves. -/
def Obligations.HiddenFlagsAreNotRead : Prop :=
  ∀ (i : Instr) (s : State) (x y : Bool), i ≠ .pushQq .af → i ≠ .exAfAf →
    onNext State.dropXY (exec i (s.setFlags { s.flags with x := x, y := y })) = onNext State.dropXY (exec i s)

/-- The memory frame of every instruction: every address but those it stores to, computed by `storeAddrs`, reads as before; for a form
that stores nothing that is every address; and so does every address of ROM, stored to or not (20_memory.md R62, R72; the rules of files 41
to 49). What a device region answers is the host's (R61). -/
def Obligations.MemoryFrame : Prop :=
  ∀ (i : Instr) (s t : State), s.mem.wf = true → exec i s = .next t →
    ∀ a : Word, s.isDevice a = false → (a ∉ storeAddrs i s ∨ s.writable a = false) → t.peek a = s.peek a

/-- The model's invariant (log 2): memory keeps its canonical form over every step, whatever the host calls. -/
def Obligations.MemoryStaysCanonical : Prop :=
  ∀ s t : State, s.mem.wf = true → step s = .next t → t.mem.wf = true

/-- Memory has the canonical form after reset, and with it every instruction's placement (`withFetchWord`) keeps it (log 2, 11). -/
def Obligations.ResetMemoryIsCanonical : Prop :=
  State.reset.mem.wf = true ∧ ∀ (s : State) (nbits w : Nat), s.mem.wf = true → (s.withFetchWord nbits w).mem.wf = true

/-! ### Primitives, reset -/

/-- 00_scope.md R12, whole: parity and its four worked values. -/
def Obligations.ParityIsAnEvenCountOfOnes : Prop :=
  (∀ v : Byte, parity v = true ↔ EvenOnes v) ∧
    parity 0x00 = true ∧ parity 0x01 = false ∧ parity 0x03 = true ∧ parity 0xFF = true

/-- 10_state.md R27, whole: the place of each flag in `F`, and that `F` is eight bits of storage. -/
def Obligations.FlagByteLayout : Prop :=
  (∀ g : Flags, g.pack.getLsbD 7 = g.s ∧ g.pack.getLsbD 6 = g.z ∧ g.pack.getLsbD 5 = g.y ∧ g.pack.getLsbD 4 = g.h ∧
    g.pack.getLsbD 3 = g.x ∧ g.pack.getLsbD 2 = g.p ∧ g.pack.getLsbD 1 = g.n ∧ g.pack.getLsbD 0 = g.c) ∧
    (∀ v : Byte, (unpackFlags v).pack = v) ∧ ∀ (s : State) (g : Flags), (s.setFlags g).flags = g ∧ (s.setFlags g).main.f = g.pack

/-- 00_scope.md R11, whole: `Push16` and `Pop16`, their bus operations in order, `SP`, and nothing else. -/
def Obligations.StackPrimitives : Prop :=
  ∀ s : State,
    (∀ v : Word, s.mem.wf = true → Changed [.sp] (pushOps s v) s (s.push16 v) ∧ (s.push16 v).sp = s.sp - 2) ∧
      Changed [.sp] (read16Ops s s.sp) s s.pop16.2 ∧ s.pop16.2.sp = s.sp + 2 ∧
      s.pop16.1 = mkWord (s.peekNext s.sp) (s.peek s.sp)

/-- 10_state.md R48, whole: what `reset()` writes, that it writes nothing else, of the block or of the host's side, and performs no bus
operation, and that it is idempotent. -/
def Obligations.ResetWritesExactlyThis : Prop :=
  ∀ (s : State) (calls : List HostCall), s.schedule = .reset :: calls →
    ∃ t, step s = .next t ∧
      SameSlots ([.sp, .pc, .a, .r, .im, .iff1, .iff2, .halted, .pendingDi, .pendingEi, .cyc] ++ allFlags) s t ∧
      t.sp = 0xDFF0 ∧ t.pc = 0x0000 ∧ t.main.a = 0x00 ∧ t.r = 0x00 ∧ t.main.f = 0x00 ∧ t.im = .im0 ∧ t.iff1 = false ∧
      t.iff2 = false ∧ t.halted = false ∧ t.pendingDi = false ∧ t.pendingEi = false ∧ t.cyc = 0 ∧
      t.mem = s.mem ∧ t.bus = s.bus ∧ t.hostAnswers = s.hostAnswers ∧ t.schedule = calls ∧ t.params = s.params ∧
      t.stepReturn = s.stepReturn ∧ t.freeCount = s.freeCount ∧ resetPort t = t

/-! ### Interrupts -/

/-- 60_exceptions.md R544, whole: a non-maskable interrupt is always accepted, and this is all it does. That its cost goes to `cyc` and that
`data` is ignored are the spec's own decisions D25 and D37 (log 19). -/
def Obligations.NmiIsAlwaysAccepted : Prop :=
  ∀ (s : State) (data : Byte), s.mem.wf = true →
    ∃ t, irq true data s = .next t ∧
      Changed [.r, .halted, .iff1, .iff2, .sp, .pc, .cyc] (pushOps s s.pc) s t ∧
      t.r = (s.r &&& 0x80) ||| ((s.r + 1) &&& 0x7F) ∧ t.halted = false ∧ t.iff2 = s.iff1 ∧ t.iff1 = false ∧
      t.sp = s.sp - 2 ∧ t.pc = 0x0066 ∧ t.cyc = s.cyc + 11

/-- Maskable requests (60_exceptions.md R545, R547, R548): with `IFF1 = 0` nothing at all happens; accepted in mode 1 or 2 the machine
pushes `PC`, disables both flip-flops and goes to `0x0038` or to the word at `I:data`, read after the push. That all bits
of `data` are used in mode 2, that it is ignored in mode 1 and in a rejected call, and that the cost goes to `cyc` are the spec's own decisions
D38, D37 and D25 (log 19). -/
def Obligations.MaskableAcceptance : Prop :=
  ∀ (s : State) (data : Byte), s.mem.wf = true → let u := s.push16 s.pc; let v := mkWord s.i data
    (s.iff1 = false → irq false data s = .next s) ∧
    (s.iff1 = true → s.im = .im1 →
      ∃ t, irq false data s = .next t ∧
        Changed [.r, .halted, .iff1, .iff2, .sp, .pc, .cyc] (pushOps s s.pc) s t ∧
        t.r = (s.r &&& 0x80) ||| ((s.r + 1) &&& 0x7F) ∧ t.halted = false ∧ t.iff1 = false ∧ t.iff2 = false ∧
        t.sp = s.sp - 2 ∧ t.pc = 0x0038 ∧ t.cyc = s.cyc + 13) ∧
    (s.iff1 = true → s.im = .im2 →
      ∃ t, irq false data s = .next t ∧
        Changed [.r, .halted, .iff1, .iff2, .sp, .pc, .cyc] (pushOps s s.pc ++ read16Ops u v) s t ∧
        t.r = (s.r &&& 0x80) ||| ((s.r + 1) &&& 0x7F) ∧ t.halted = false ∧ t.iff1 = false ∧ t.iff2 = false ∧
        t.sp = s.sp - 2 ∧ t.pc = u.word v ∧ t.cyc = s.cyc + 19)

/-- Mode 0 (60_exceptions.md R546): `data` runs as an instruction `i` at `PC - 1` on a state `u` in which its further bytes, and nothing else,
have been fetched from `PC` on, in order (the spec's own decision D20); `R` counts the acceptance and the opcode byte a prefix consumes
(40_fetch_decode.md R131, D5); both flip-flops and `halted` are cleared; the T-states are 2, the cost a prefix handler adds or, for a main-plane
byte, the base cost if `im0_adds_base_cost` (D21), and the instruction's conditional extra (70_reset_and_hazards.md R598). `RST p` pushes the
interrupted `PC`; `NOP` leaves `PC` and memory alone. That a lone prefix costs what it does in a step is log 13. D5,
D20, D21, and D25 for the cost in `cyc`, are the spec's own decisions (log 19). -/
def Obligations.ModeZeroInjectsTheInstruction : Prop :=
  ∀ (s : State) (data : Byte), s.iff1 = true → s.im = .im0 →
    let b (k : Nat) : Byte := s.fetchByte s.pc k
    let i := decodeBytes data (b 0) (b 1) (b 2)
    let base : Nat := if s.params.im0AddsBaseCost = true then Config.cycleCountsMain data else 0
    let cost : Nat := (handlerCost s.params data (b 0) (b 2)).getD base
    (∃ u v, irq false data s = .next (v.addCyc 2) ∧ exec i u = .next v ∧
      Changed [.pc, .r, .iff1, .iff2, .halted, .cyc] (fetchOps s s.pc (i.bytesRead - 1)) s u ∧
      u.pc = s.pc - 1 ∧ u.iff1 = false ∧ u.iff2 = false ∧ u.halted = false ∧ u.cyc = s.cyc + cost ∧
      u.r.toNat % 128 = (s.r.toNat + opcodeCount i) % 128 ∧ u.r.getLsbD 7 = s.r.getLsbD 7 ∧
      v.cyc = u.cyc + extraCost i u) ∧
    (∀ p : Field3, s.mem.wf = true → data = opXYZ 3 p 7 →
      ∃ t, irq false data s = .next t ∧ Changed [.sp, .pc, .r, .iff1, .iff2, .halted, .cyc] (pushOps s s.pc) s t ∧
        t.pc = BitVec.ofNat 16 (8 * p.toNat) ∧ t.sp = s.sp - 2 ∧ Stored16 t t.sp s.pc ∧ t.iff1 = false ∧ t.iff2 = false ∧
        t.halted = false ∧ t.r = (s.r &&& 0x80) ||| ((s.r + 1) &&& 0x7F) ∧ t.cyc = s.cyc + base + 2) ∧
    (data = 0x00 → ∃ t, irq false data s = .next t ∧ Changed [.r, .iff1, .iff2, .halted, .cyc] [] s t ∧
      t.iff1 = false ∧ t.iff2 = false ∧ t.halted = false ∧ t.r = (s.r &&& 0x80) ||| ((s.r + 1) &&& 0x7F) ∧
      t.cyc = s.cyc + base + 2)

/-- An NMI and the `RETN` that ends its handler at once: back where the program was, with the mask as it was (60_exceptions.md R544,
R551; 47_io_system.md R408), where the stack lies in RAM. That an NMI ignores `data` is the spec's own decision D37 (log 19). -/
def Obligations.RetnUndoesAnNmi : Prop :=
  ∀ (s : State) (data : Byte) (y : Field3), s.mem.wf = true → s.writable (s.sp - 1) = true → s.writable (s.sp - 2) = true →
    ∃ t u, irq true data s = .next t ∧ exec (.retn y) t = .next u ∧ u.pc = s.pc ∧ u.sp = s.sp ∧ u.iff1 = s.iff1 ∧
      SameSlots [.r, .halted, .iff2, .cyc] s u

/-! ### Loads, stack, exchanges -/

/-- The 8-bit loads (41_load8.md R150 to R160), each with its frame and its bus operations. The source only names most of them: their effect
is the spec's own decision D28 (log 19). -/
def Obligations.Load8 : Prop :=
  ∀ (s : State) (r r' : Reg8) (n : Byte) (nn : Word),
    Completes (.ldRR r r') s [regSlot r, .pc] [] (fun t => t.reg r = s.reg r' ∧ t.pc = s.pc + 1) ∧
    Completes (.ldRN r n) s [regSlot r, .pc] [] (fun t => t.reg r = n ∧ t.pc = s.pc + 2) ∧
    Completes (.ldRIndHl r) s [regSlot r, .pc] [.memRead s.main.hl (s.peek s.main.hl)]
      (fun t => t.reg r = s.peek s.main.hl ∧ t.pc = s.pc + 1) ∧
    Completes .ldAIndBc s [.a, .pc] [.memRead s.main.bc (s.peek s.main.bc)]
      (fun t => t.main.a = s.peek s.main.bc ∧ t.pc = s.pc + 1) ∧
    Completes .ldAIndDe s [.a, .pc] [.memRead s.main.de (s.peek s.main.de)]
      (fun t => t.main.a = s.peek s.main.de ∧ t.pc = s.pc + 1) ∧
    Completes (.ldAIndNn nn) s [.a, .pc] [.memRead nn (s.peek nn)] (fun t => t.main.a = s.peek nn ∧ t.pc = s.pc + 3) ∧
    (s.mem.wf = true →
      Completes (.ldIndHlR r) s [.pc] [.memWrite s.main.hl (s.reg r)] (fun t => t.pc = s.pc + 1) ∧
      Completes (.ldIndHlN n) s [.pc] [.memWrite s.main.hl n] (fun t => t.pc = s.pc + 2) ∧
      Completes .ldIndBcA s [.pc] [.memWrite s.main.bc s.main.a] (fun t => t.pc = s.pc + 1) ∧
      Completes .ldIndDeA s [.pc] [.memWrite s.main.de s.main.a] (fun t => t.pc = s.pc + 1) ∧
      Completes (.ldIndNnA nn) s [.pc] [.memWrite nn s.main.a] (fun t => t.pc = s.pc + 3))

/-- The 16-bit loads (42_load16_stack_exchange.md R190 to R195): low byte at the lower address, wrapping at the top. The byte order, the low
byte accessed first, and the loads themselves, which the source only names, are the spec's own decisions D4, D9 and D28 (log 19). -/
def Obligations.Load16 : Prop :=
  ∀ (s : State) (dd : Pair) (nn : Word),
    Completes (.ldDdNn dd nn) s (.pc :: pairSlots dd) [] (fun t => t.pair dd = nn ∧ t.pc = s.pc + 3) ∧
    Completes (.ldHlIndNn nn) s [.h, .l, .pc] (read16Ops s nn) (fun t => t.main.hl = s.word nn ∧ t.pc = s.pc + 3) ∧
    Completes (.ldDdIndNn dd nn) s (.pc :: pairSlots dd) (read16Ops s nn)
      (fun t => t.pair dd = s.word nn ∧ t.pc = s.pc + 4) ∧
    Completes .ldSpHl s [.sp, .pc] [] (fun t => t.sp = s.main.hl ∧ t.pc = s.pc + 1) ∧
    (s.mem.wf = true →
      Completes (.ldIndNnHl nn) s [.pc] (write16Ops nn s.main.hl) (fun t => Stored16 t nn s.main.hl ∧ t.pc = s.pc + 3) ∧
      Completes (.ldIndNnDd nn dd) s [.pc] (write16Ops nn (s.pair dd)) (fun t => Stored16 t nn (s.pair dd) ∧ t.pc = s.pc + 4))

/-- `PUSH` and `POP` of the pairs and of `IX`, `IY` (42_load16_stack_exchange.md R196, R197; 49_index.md R467, R468); `POP AF` writes all
eight flags. -/
def Obligations.PushAndPop : Prop :=
  ∀ (s : State) (qq : PairQ),
    Completes (.popQq qq) s (.sp :: .pc :: pairQSlots qq) (read16Ops s s.sp)
      (fun t => t.pairQ qq = s.word s.sp ∧ t.sp = s.sp + 2 ∧ t.pc = s.pc + 1) ∧
    Completes .popIx s [.sp, .pc, .ixh, .ixl] (read16Ops s s.sp)
      (fun t => t.ix = s.word s.sp ∧ t.sp = s.sp + 2 ∧ t.pc = s.pc + 2) ∧
    Completes .popIy s [.sp, .pc, .iyh, .iyl] (read16Ops s s.sp)
      (fun t => t.iy = s.word s.sp ∧ t.sp = s.sp + 2 ∧ t.pc = s.pc + 2) ∧
    (s.mem.wf = true →
      Completes (.pushQq qq) s [.sp, .pc] (pushOps s (s.pairQ qq))
        (fun t => t.sp = s.sp - 2 ∧ Stored16 t t.sp (s.pairQ qq) ∧ t.pc = s.pc + 1) ∧
      Completes .pushIx s [.sp, .pc] (pushOps s s.ix) (fun t => t.sp = s.sp - 2 ∧ Stored16 t t.sp s.ix ∧ t.pc = s.pc + 2) ∧
      Completes .pushIy s [.sp, .pc] (pushOps s s.iy) (fun t => t.sp = s.sp - 2 ∧ Stored16 t t.sp s.iy ∧ t.pc = s.pc + 2))

/-- "`PUSH rp; POP rp` is identity on all registers", `PC` apart, `F` byte for byte, and on all memory but the two bytes below `SP`
(42_load16_stack_exchange.md R197), "when the host memory returns what was written". -/
def Obligations.PushThenPopIsIdentity : Prop :=
  ∀ (s : State) (qq : PairQ), s.mem.wf = true → s.writable (s.sp - 1) = true → s.writable (s.sp - 2) = true →
    ∃ t u, exec (.pushQq qq) s = .next t ∧ exec (.popQq qq) t = .next u ∧ SameSlots [.pc] s u ∧ u.main.f = s.main.f ∧
      ∀ a : Word, s.isDevice a = false → a ≠ s.sp - 1 → a ≠ s.sp - 2 → u.peek a = s.peek a

/-- The exchanges (42_load16_stack_exchange.md R210, R211, R214, R215; 49_index.md R469). Of `EX (SP),·`, the order of the
writes is the spec's own decision D9 and the byte order D4; the exchanges the source only names are D28 (log 19). -/
def Obligations.Exchanges : Prop :=
  ∀ s : State,
    Completes .exDeHl s [.d, .e, .h, .l, .pc] [] (fun t => t.main.de = s.main.hl ∧ t.main.hl = s.main.de ∧ t.pc = s.pc + 1) ∧
    Completes .exAfAf s ([.a, .sA, .sF, .pc] ++ allFlags) []
      (fun t => t.main.af = s.shadow.af ∧ t.shadow.af = s.main.af ∧ t.pc = s.pc + 1) ∧
    Completes .exx s [.b, .c, .d, .e, .h, .l, .sB, .sC, .sD, .sE, .sH, .sL, .pc] []
      (fun t => t.main.bc = s.shadow.bc ∧ t.main.de = s.shadow.de ∧ t.main.hl = s.shadow.hl ∧
        t.shadow.bc = s.main.bc ∧ t.shadow.de = s.main.de ∧ t.shadow.hl = s.main.hl ∧ t.pc = s.pc + 1) ∧
    (s.mem.wf = true →
      Completes .exIndSpHl s [.h, .l, .pc]
        (read16Ops s s.sp ++ [.memWrite (s.sp + 1) s.main.h, .memWrite s.sp s.main.l])
        (fun t => t.main.hl = s.word s.sp ∧ Stored16 t s.sp s.main.hl ∧ t.pc = s.pc + 1) ∧
      Completes .exIndSpIx s [.ixh, .ixl, .pc]
        (read16Ops s s.sp ++ [.memWrite (s.sp + 1) (wordHi s.ix), .memWrite s.sp (wordLo s.ix)])
        (fun t => t.ix = s.word s.sp ∧ Stored16 t s.sp s.ix ∧ t.pc = s.pc + 2) ∧
      Completes .exIndSpIy s [.iyh, .iyl, .pc]
        (read16Ops s s.sp ++ [.memWrite (s.sp + 1) (wordHi s.iy), .memWrite s.sp (wordLo s.iy)])
        (fun t => t.iy = s.word s.sp ∧ Stored16 t s.sp s.iy ∧ t.pc = s.pc + 2))

/-! ### 8-bit arithmetic -/

/-- 43_alu8.md R230, whole, on every form of `ADD A,s` and `ADC A,s` (R239 to R244, R485, R486, R506, R507): the sum, the eight flags by the
kernel's formulas, and that `P` is signed overflow. -/
def Obligations.AddAndAdc : Prop :=
  ∀ (op : AluOp) (o : Source) (s : State), op = .add ∨ op = .adc →
    let a := s.main.a
    let x := o.value s
    let c := if op = .adc then s.flags.c.toNat else 0
    Completes (aluInstr op o) s (.a :: .pc :: allFlags) (o.reads s) fun t =>
      t.main.a.toNat = (a.toNat + x.toNat + c) % 256 ∧ SzyxFrom t.main.a t.flags ∧
        (t.flags.h = true ↔ a.toNat % 16 + x.toNat % 16 + c > 15) ∧
        (t.flags.p = true ↔ a.getLsbD 7 = x.getLsbD 7 ∧ a.getLsbD 7 ≠ t.main.a.getLsbD 7) ∧
        (t.flags.p = true ↔ SignedOverflow 8 (a.toInt + x.toInt + c)) ∧
        t.flags.n = false ∧ (t.flags.c = true ↔ a.toNat + x.toNat + c > 255) ∧ t.pc = s.pc + o.length

/-- `SUB`, `SBC`, `CP` in every form, and `NEG` in all its encodings (43_alu8.md R231, R235, R245 to R250, R260 to R262, R269; 49_index.md):
the difference, borrow and half-borrow, `P` as signed overflow; `CP` keeps `A` and takes `X,Y` from the operand. `C` as borrow is the
spec's own decision D7, the nibble of `NEG` D35, `S,Z,X,Y` of `SUB`, `SBC` and `NEG` D6 (log 19). -/
def Obligations.SubSbcCpAndNeg : Prop :=
  ∀ (o : Source) (s : State) (y : Field3),
    let a := s.main.a
    let x := o.value s
    let diff (c : Nat) : Byte := BitVec.ofInt 8 ((a.toNat : Int) - x.toNat - c)
    Completes (aluInstr .sub o) s (.a :: .pc :: allFlags) (o.reads s)
      (fun t => t.main.a = diff 0 ∧ SubFlags a x 0 (diff 0) t.flags ∧ t.pc = s.pc + o.length) ∧
    Completes (aluInstr .sbc o) s (.a :: .pc :: allFlags) (o.reads s)
      (fun t => t.main.a = diff s.flags.c.toNat ∧ SubFlags a x s.flags.c.toNat (diff s.flags.c.toNat) t.flags ∧
        t.pc = s.pc + o.length) ∧
    Completes (aluInstr .cp o) s (.pc :: allFlags) (o.reads s)
      (fun t => SubFlags a x 0 x t.flags ∧ t.pc = s.pc + o.length) ∧
    Completes (.neg y) s (.a :: .pc :: allFlags) []
      (fun t => t.main.a = BitVec.ofInt 8 (-(a.toNat : Int)) ∧ SzyxFrom t.main.a t.flags ∧
        (t.flags.h = true ↔ a.toNat % 16 ≠ 0) ∧ (t.flags.p = true ↔ a = 0x80) ∧ t.flags.n = true ∧
        (t.flags.c = true ↔ a ≠ 0) ∧ t.pc = s.pc + 2)

/-- `AND`, `XOR`, `OR` in every form, bit by bit (43_alu8.md R232 to R234, R251 to R259; 49_index.md). `S,Z,X,Y` from the result are the
spec's own decision D6. -/
def Obligations.LogicOperations : Prop :=
  ∀ (o : Source) (s : State), let a := s.main.a; let x := o.value s
    Completes (aluInstr .and o) s (.a :: .pc :: allFlags) (o.reads s)
      (fun t => (∀ j < 8, t.main.a.getLsbD j = (a.getLsbD j && x.getLsbD j)) ∧ LogicFlags t.main.a true t.flags ∧
        t.pc = s.pc + o.length) ∧
    Completes (aluInstr .xor o) s (.a :: .pc :: allFlags) (o.reads s)
      (fun t => (∀ j < 8, t.main.a.getLsbD j = (a.getLsbD j != x.getLsbD j)) ∧ LogicFlags t.main.a false t.flags ∧
        t.pc = s.pc + o.length) ∧
    Completes (aluInstr .or o) s (.a :: .pc :: allFlags) (o.reads s)
      (fun t => (∀ j < 8, t.main.a.getLsbD j = (a.getLsbD j || x.getLsbD j)) ∧ LogicFlags t.main.a false t.flags ∧
        t.pc = s.pc + o.length)

/-- The 8-bit `INC` and `DEC` of every place (43_alu8.md R236, R237, R263 to R266; 49_index.md R483, R484, R495 to R498): one read and one
write of a place in memory; `C` is kept. `S,Z,X,Y` from the result are the spec's own decision D6 (log 19). -/
def Obligations.IncAndDec8 : Prop :=
  ∀ (p : Place) (i : Instr) (s : State), s.mem.wf = true → let x := p.value s
    (incInstr p = some i →
      let r : Byte := BitVec.ofNat 8 (x.toNat + 1)
      Completes i s (p.slots ++ .pc :: flagsButC) (p.reads s ++ p.writes s r) fun t =>
        p.Holds s t r ∧ SzyxFrom r t.flags ∧ (t.flags.h = true ↔ x.toNat % 16 = 15) ∧ (t.flags.p = true ↔ x = 0x7F) ∧
          t.flags.n = false ∧ t.pc = s.pc + p.incLength) ∧
    (decInstr p = some i →
      let r : Byte := BitVec.ofInt 8 ((x.toNat : Int) - 1)
      Completes i s (p.slots ++ .pc :: flagsButC) (p.reads s ++ p.writes s r) fun t =>
        p.Holds s t r ∧ SzyxFrom r t.flags ∧ (t.flags.h = true ↔ x.toNat % 16 = 0) ∧ (t.flags.p = true ↔ x = 0x80) ∧
          t.flags.n = true ∧ t.pc = s.pc + p.incLength)

/-- `DAA` (43_alu8.md R267): both corrections decided on the old `A` (the spec's own decision D19), `H` the bit-4 delta, `C` sticky, `N` kept. -/
def Obligations.DecimalAdjust : Prop :=
  ∀ s : State, let a := s.main.a; let g := s.flags
    let fix : Int := (if g.h = true ∨ a.toNat % 16 > 9 then 6 else 0) + (if g.c = true ∨ a.toNat > 0x99 then 0x60 else 0)
    Completes .daa s [.a, .pc, .fS, .fZ, .fY, .fH, .fX, .fP, .fC] [] fun t =>
      t.main.a = BitVec.ofInt 8 (if g.n = true then (a.toNat : Int) - fix else a.toNat + fix) ∧
        SzyxFrom t.main.a t.flags ∧ (t.flags.h = true ↔ a.getLsbD 4 ≠ t.main.a.getLsbD 4) ∧
        (t.flags.p = true ↔ EvenOnes t.main.a) ∧ (t.flags.c = true ↔ g.c = true ∨ a.toNat > 0x99) ∧ t.pc = s.pc + 1

/-- Decimal arithmetic works: an addition or subtraction of packed decimal bytes, then `DAA`, leaves the packed decimal result and the
decimal carry or borrow in `C` (43_alu8.md R230, R231, R267 together). `SUB` and `SBC` rest on `C` as borrow, the spec's own decision D7, and
every `DAA` step on both its tests looking at the old `A`, the spec's own decision D19 (log 19). -/
def Obligations.DecimalArithmetic : Prop :=
  ∀ (o : Source) (s : State), Bcd s.main.a → Bcd (o.value s) →
    let m := bcdValue s.main.a
    let n := bcdValue (o.value s)
    let c := s.flags.c.toNat
    (∃ t u, exec (aluInstr .add o) s = .next t ∧ exec .daa t = .next u ∧ Bcd u.main.a ∧
      bcdValue u.main.a = (m + n) % 100 ∧ (u.flags.c = true ↔ m + n ≥ 100)) ∧
    (∃ t u, exec (aluInstr .adc o) s = .next t ∧ exec .daa t = .next u ∧ Bcd u.main.a ∧
      bcdValue u.main.a = (m + n + c) % 100 ∧ (u.flags.c = true ↔ m + n + c ≥ 100)) ∧
    (∃ t u, exec (aluInstr .sub o) s = .next t ∧ exec .daa t = .next u ∧ Bcd u.main.a ∧
      bcdValue u.main.a = (m + 100 - n) % 100 ∧ (u.flags.c = true ↔ m < n)) ∧
    (∃ t u, exec (aluInstr .sbc o) s = .next t ∧ exec .daa t = .next u ∧ Bcd u.main.a ∧
      bcdValue u.main.a = (m + 200 - n - c) % 100 ∧ (u.flags.c = true ↔ m < n + c))

/-- `CPL`, `SCF`, `CCF` (43_alu8.md R268, R270, R271). `H`, `N` and the flags of `CPL` are the spec's own decision D29. -/
def Obligations.ComplementAndCarryOperations : Prop :=
  ∀ s : State, let a := s.main.a
    Completes .cpl s [.a, .pc, .fY, .fH, .fX, .fN] []
      (fun t => (∀ j < 8, t.main.a.getLsbD j = !a.getLsbD j) ∧ t.flags.h = true ∧ t.flags.n = true ∧
        t.flags.x = t.main.a.getLsbD 3 ∧ t.flags.y = t.main.a.getLsbD 5 ∧ t.pc = s.pc + 1) ∧
    Completes .scf s (.pc :: flagsYHXNC) []
      (fun t => t.flags.c = true ∧ t.flags.h = false ∧ t.flags.n = false ∧ t.flags.x = a.getLsbD 3 ∧
        t.flags.y = a.getLsbD 5 ∧ t.pc = s.pc + 1) ∧
    Completes .ccf s (.pc :: flagsYHXNC) []
      (fun t => t.flags.c = !s.flags.c ∧ t.flags.h = s.flags.c ∧ t.flags.n = false ∧ t.flags.x = a.getLsbD 3 ∧
        t.flags.y = a.getLsbD 5 ∧ t.pc = s.pc + 1)

/-! ### 16-bit arithmetic -/

/-- 44_alu16.md R280, whole, as `ADD HL,ss`, `ADD IX,pp` and `ADD IY,pp` use it (R284; 49_index.md R471): `S`, `Z`, `P` are kept. -/
def Obligations.Add16 : Prop :=
  ∀ (s : State) (ss : Pair) (pp : PairX),
    let sum (a x : Word) (r : Word) (g : Flags) : Prop :=
      r.toNat = (a.toNat + x.toNat) % 65536 ∧ (g.h = true ↔ a.toNat % 0x1000 + x.toNat % 0x1000 > 0x0FFF) ∧ g.n = false ∧
        (g.c = true ↔ a.toNat + x.toNat > 0xFFFF) ∧ g.x = r.getLsbD 11 ∧ g.y = r.getLsbD 13
    let other (xy : Word) : Word := match pp with
      | .bc => s.main.bc
      | .de => s.main.de
      | .xy => xy
      | .sp => s.sp
    Completes (.addHlSs ss) s (.h :: .l :: .pc :: flagsYHXNC) []
      (fun t => sum s.main.hl (s.pair ss) t.main.hl t.flags ∧ t.pc = s.pc + 1) ∧
    Completes (.addIxPp pp) s (.ixh :: .ixl :: .pc :: flagsYHXNC) []
      (fun t => sum s.ix (other s.ix) t.ix t.flags ∧ t.pc = s.pc + 2) ∧
    Completes (.addIyPp pp) s (.iyh :: .iyl :: .pc :: flagsYHXNC) []
      (fun t => sum s.iy (other s.iy) t.iy t.flags ∧ t.pc = s.pc + 2)

/-- `ADC HL,ss` and `SBC HL,ss` (44_alu16.md R281, R282, R285, R286): `S`, `Z` of all sixteen bits, `P` as signed overflow, and
`H`, `X`, `Y` as in `ADD HL` with the high byte's bits are the spec's own decisions D15 and D6 (log 19). -/
def Obligations.AdcAndSbc16 : Prop :=
  ∀ (s : State) (ss : Pair), let a := s.main.hl; let x := s.pair ss; let c := s.flags.c.toNat
    Completes (.adcHlSs ss) s (.h :: .l :: .pc :: allFlags) []
      (fun t => let r := t.main.hl
        r.toNat = (a.toNat + x.toNat + c) % 65536 ∧ t.flags.s = r.getLsbD 15 ∧ (t.flags.z = true ↔ r = 0) ∧
          (t.flags.h = true ↔ a.toNat % 0x1000 + x.toNat % 0x1000 + c > 0x0FFF) ∧
          (t.flags.p = true ↔ SignedOverflow 16 (a.toInt + x.toInt + c)) ∧ t.flags.n = false ∧
          (t.flags.c = true ↔ a.toNat + x.toNat + c > 0xFFFF) ∧ t.flags.x = r.getLsbD 11 ∧ t.flags.y = r.getLsbD 13 ∧
          t.pc = s.pc + 2) ∧
    Completes (.sbcHlSs ss) s (.h :: .l :: .pc :: allFlags) []
      (fun t => let r := t.main.hl
        r = BitVec.ofInt 16 ((a.toNat : Int) - x.toNat - c) ∧ t.flags.s = r.getLsbD 15 ∧ (t.flags.z = true ↔ r = 0) ∧
          (t.flags.h = true ↔ a.toNat % 0x1000 < x.toNat % 0x1000 + c) ∧
          (t.flags.p = true ↔ SignedOverflow 16 (a.toInt - x.toInt - c)) ∧ t.flags.n = true ∧
          (t.flags.c = true ↔ a.toNat < x.toNat + c) ∧ t.flags.x = r.getLsbD 11 ∧ t.flags.y = r.getLsbD 13 ∧
          t.pc = s.pc + 2)

/-- The 16-bit `INC` and `DEC` wrap and touch no flag (44_alu16.md R283, R287, R288; 49_index.md R472, R473). That no flag changes is the
spec's own decision D36. -/
def Obligations.IncAndDec16 : Prop :=
  ∀ (s : State) (ss : Pair),
    Completes (.incSs ss) s (.pc :: pairSlots ss) []
      (fun t => (t.pair ss).toNat = ((s.pair ss).toNat + 1) % 65536 ∧ t.pc = s.pc + 1) ∧
    Completes (.decSs ss) s (.pc :: pairSlots ss) []
      (fun t => (t.pair ss).toNat = ((s.pair ss).toNat + 65535) % 65536 ∧ t.pc = s.pc + 1) ∧
    Completes .incIx s [.ixh, .ixl, .pc] [] (fun t => t.ix.toNat = (s.ix.toNat + 1) % 65536 ∧ t.pc = s.pc + 2) ∧
    Completes .decIx s [.ixh, .ixl, .pc] [] (fun t => t.ix.toNat = (s.ix.toNat + 65535) % 65536 ∧ t.pc = s.pc + 2) ∧
    Completes .incIy s [.iyh, .iyl, .pc] [] (fun t => t.iy.toNat = (s.iy.toNat + 1) % 65536 ∧ t.pc = s.pc + 2) ∧
    Completes .decIy s [.iyh, .iyl, .pc] [] (fun t => t.iy.toNat = (s.iy.toNat + 65535) % 65536 ∧ t.pc = s.pc + 2)

/-! ### Rotates, shifts, bits -/

/-- `RLCA`, `RRCA`, `RLA`, `RRA` (45_rotate_shift_bit.md R320 to R323): `S`, `Z`, `P` are kept; `X,Y` are of the new `A` (the spec's own decision
D32). -/
def Obligations.AccumulatorRotates : Prop :=
  ∀ (s : State) (k : ShiftKind) (i : Instr), (k, i) ∈ [(.rlc, .rlca), (.rrc, .rrca), (.rl, .rla), (.rr, .rra)] →
    Completes i s (.a :: .pc :: flagsYHXNC) [] fun t =>
      ShiftResult k s.main.a s.flags.c t.main.a t.flags.c ∧ t.flags.h = false ∧ t.flags.n = false ∧
        t.flags.x = t.main.a.getLsbD 3 ∧ t.flags.y = t.main.a.getLsbD 5 ∧ t.pc = s.pc + 1

/-- 45_rotate_shift_bit.md R300, whole, on every place of the CB plane and of the composite plane (R303 to R318; 49_index.md R521, R522): the
result bit by bit, the carry-out, the eight flags, one read and one write of a place in memory, the register copy. -/
def Obligations.ShiftsAndRotates : Prop :=
  ∀ (k : ShiftKind) (p : Place) (i : Instr) (s : State), s.mem.wf = true → shiftInstr k p = some i →
    ∃ (r : Byte) (co : Bool), ShiftResult k (p.value s) s.flags.c r co ∧
      Completes i s (p.slots ++ .pc :: allFlags) (p.reads s ++ p.writes s r) fun t =>
        p.Holds s t r ∧ SzyxFrom r t.flags ∧ t.flags.h = false ∧ (t.flags.p = true ↔ EvenOnes r) ∧ t.flags.n = false ∧
          t.flags.c = co ∧ t.pc = s.pc + p.cbLength

/-- 45_rotate_shift_bit.md R301 on every place and for every unused register field of the composite form (R324, R325; 49_index.md R523): only
flags are written, one read of a place in memory, no write. That every register field of `P CB d` is the same `BIT n,(XY+d)`, without a
register copy, with `X` and `Y` by the general formula, is the spec's own decision D34, marked inside R523 (log 19). -/
def Obligations.BitTest : Prop :=
  ∀ (b z : Field3) (p : Place) (i : Instr) (s : State), bitInstr b z p = some i → let v := (p.value s).getLsbD b.toNat
    Completes i s (.pc :: flagsButC) (p.reads s) fun t =>
      t.flags.z = !v ∧ t.flags.p = !v ∧ (t.flags.s = true ↔ b = 7 ∧ v = true) ∧ t.flags.h = true ∧ t.flags.n = false ∧
        (t.flags.x = true ↔ b = 3 ∧ v = true) ∧ (t.flags.y = true ↔ b = 5 ∧ v = true) ∧ t.pc = s.pc + p.cbLength

/-- 45_rotate_shift_bit.md R302, whole, on every place (R326 to R329; 49_index.md R524 to R526): one bit cleared or set, every other bit and every
flag kept, one read and one write of a place in memory also when nothing changes, the register copy. -/
def Obligations.ResetAndSetBit : Prop :=
  ∀ (b : Field3) (p : Place) (i : Instr) (s : State), s.mem.wf = true → ∀ v : Bool,
    (if v then setInstr b p else resInstr b p) = some i →
      ∃ r : Byte, BitSetTo b v (p.value s) r ∧
        Completes i s (.pc :: p.slots) (p.reads s ++ p.writes s r) fun t => p.Holds s t r ∧ t.pc = s.pc + p.cbLength

/-- `RLD` and `RRD` (45_rotate_shift_bit.md R330, R331): three nibbles move, the high nibble of `A` stays. The movement is the spec's own
decision D31. -/
def Obligations.NibbleRotates : Prop :=
  ∀ s : State, s.mem.wf = true →
    let a := s.main.a.toNat
    let m := (s.peek s.main.hl).toNat
    let flags (t : State) : Prop := SzyxFrom t.main.a t.flags ∧ t.flags.h = false ∧ (t.flags.p = true ↔ EvenOnes t.main.a) ∧
      t.flags.n = false ∧ t.pc = s.pc + 2
    Completes .rld s (.a :: .pc :: flagsButC)
      [.memRead s.main.hl (s.peek s.main.hl), .memWrite s.main.hl (BitVec.ofNat 8 (16 * (m % 16) + a % 16))]
      (fun t => t.main.a.toNat = 16 * (a / 16) + m / 16 ∧ flags t) ∧
    Completes .rrd s (.a :: .pc :: flagsButC)
      [.memRead s.main.hl (s.peek s.main.hl), .memWrite s.main.hl (BitVec.ofNat 8 (16 * (a % 16) + m / 16))]
      (fun t => t.main.a.toNat = 16 * (a / 16) + m % 16 ∧ flags t)

/-! ### Control -/

/-- The jumps (46_control.md R350 to R357; 49_index.md R470): where each goes, taken or not, and the T-states of a taken one; no memory is
read at the target. That `DJNZ` touches no flag, the condition codes, and the jumps the source only names are the spec's own decisions D30,
D26 and D28 (log 19). -/
def Obligations.Jumps : Prop :=
  ∀ (s : State) (cc : Cond) (nn : Word) (e : Byte),
    let rel : Word := BitVec.ofInt 16 ((s.pc.toNat : Int) + 2 + e.toInt)
    Completes (.jpNn nn) s [.pc] [] (fun t => t.pc = nn) ∧
    Completes (.jpCcNn cc nn) s [.pc] [] (fun t => t.pc = if s.cond cc then nn else s.pc + 3) ∧
    Completes .jpIndHl s [.pc] [] (fun t => t.pc = s.main.hl) ∧
    Completes .jpIndIx s [.pc] [] (fun t => t.pc = s.ix) ∧
    Completes .jpIndIy s [.pc] [] (fun t => t.pc = s.iy) ∧
    Completes (.jr e) s [.pc] [] (fun t => t.pc = rel) ∧
    (s.cond cc = true → Completes (.jrCc cc e) s [.pc, .cyc] [] (fun t => t.pc = rel ∧ t.cyc = s.cyc + 5)) ∧
    (s.cond cc = false → Completes (.jrCc cc e) s [.pc] [] (fun t => t.pc = s.pc + 2)) ∧
    (s.main.b ≠ 1 → Completes (.djnz e) s [.b, .pc, .cyc] []
      (fun t => t.main.b = s.main.b - 1 ∧ t.pc = rel ∧ t.cyc = s.cyc + 5)) ∧
    (s.main.b = 1 → Completes (.djnz e) s [.b, .pc] [] (fun t => t.main.b = 0 ∧ t.pc = s.pc + 2))

/-- The condition codes (46_control.md R350), the spec's own decision D26 (log 19). -/
def Obligations.ConditionCodes : Prop :=
  ∀ s : State,
    s.cond .nz = !s.main.f.getLsbD 6 ∧ s.cond .z = s.main.f.getLsbD 6 ∧ s.cond .nc = !s.main.f.getLsbD 0 ∧
      s.cond .c = s.main.f.getLsbD 0 ∧ s.cond .po = !s.main.f.getLsbD 2 ∧ s.cond .pe = s.main.f.getLsbD 2 ∧
      s.cond .p = !s.main.f.getLsbD 7 ∧ s.cond .m = s.main.f.getLsbD 7 ∧ ∀ k < 8, (condSel k).code.toNat = k

/-- Calls, restarts and returns (46_control.md R358 to R362; 47_io_system.md R407, R408): the address after the call is pushed, a return
pops it; `RETN` also copies `IFF2` to `IFF1`, `RETI` does not. The condition codes, and `CALL`, `RET`, `RST`, which the source only names, are
the spec's own decisions D26 and D28 (log 19). -/
def Obligations.CallsAndReturns : Prop :=
  ∀ (s : State) (cc : Cond) (nn : Word) (p y : Field3),
    Completes .ret s [.sp, .pc] (read16Ops s s.sp) (fun t => t.pc = s.word s.sp ∧ t.sp = s.sp + 2) ∧
    Completes .reti s [.sp, .pc] (read16Ops s s.sp) (fun t => t.pc = s.word s.sp ∧ t.sp = s.sp + 2) ∧
    Completes (.retn y) s [.sp, .pc, .iff1] (read16Ops s s.sp)
      (fun t => t.pc = s.word s.sp ∧ t.sp = s.sp + 2 ∧ t.iff1 = s.iff2) ∧
    (s.cond cc = true → Completes (.retCc cc) s [.sp, .pc, .cyc] (read16Ops s s.sp)
      (fun t => t.pc = s.word s.sp ∧ t.sp = s.sp + 2 ∧ t.cyc = s.cyc + 6)) ∧
    (s.cond cc = false → Completes (.retCc cc) s [.pc] [] (fun t => t.pc = s.pc + 1)) ∧
    (s.cond cc = false → Completes (.callCcNn cc nn) s [.pc] [] (fun t => t.pc = s.pc + 3)) ∧
    (s.mem.wf = true →
      Completes (.callNn nn) s [.sp, .pc] (pushOps s (s.pc + 3))
        (fun t => t.pc = nn ∧ t.sp = s.sp - 2 ∧ Stored16 t t.sp (s.pc + 3)) ∧
      (s.cond cc = true → Completes (.callCcNn cc nn) s [.sp, .pc, .cyc] (pushOps s (s.pc + 3))
        (fun t => t.pc = nn ∧ t.sp = s.sp - 2 ∧ Stored16 t t.sp (s.pc + 3) ∧ t.cyc = s.cyc + 7)) ∧
      Completes (.rstP p) s [.sp, .pc] (pushOps s (s.pc + 1))
        (fun t => t.pc.toNat = 8 * p.toNat ∧ t.sp = s.sp - 2 ∧ Stored16 t t.sp (s.pc + 1)))

/-! ### Input, output, CPU control -/

/-- Input and output (47_io_system.md R390 to R395): the port, one operation each, the flags of `IN r,(C)` (the spec's own decision D17). That
`ED 70` and `ED 71` are instructions is its decision D2, and D17 what they do; `IN A,(n)` and `OUT (n),A` are D28 (log 19). What a port
answers is the host's (`ioAnswer`, log 5): the statement holds for every answer. -/
def Obligations.InputAndOutput : Prop :=
  ∀ (s : State) (r : Reg8) (n : Byte),
    let port : Word := mkWord s.main.a n
    let v := s.ioAnswer s.main.bc
    let inputFlags (t : State) : Prop := SzyxFrom v t.flags ∧ t.flags.h = false ∧ (t.flags.p = true ↔ EvenOnes v) ∧
      t.flags.n = false ∧ t.pc = s.pc + 2
    Completes (.inAIndN n) s [.a, .pc] [.ioRead port (s.ioAnswer port)]
      (fun t => t.main.a = s.ioAnswer port ∧ t.pc = s.pc + 2) ∧
    Completes (.outIndNA n) s [.pc] [.ioWrite port s.main.a] (fun t => t.pc = s.pc + 2) ∧
    Completes (.inRIndC r) s (regSlot r :: .pc :: flagsButC) [.ioRead s.main.bc v] (fun t => t.reg r = v ∧ inputFlags t) ∧
    Completes .inIndC s (.pc :: flagsButC) [.ioRead s.main.bc v] inputFlags ∧
    Completes (.outIndCR r) s [.pc] [.ioWrite s.main.bc (s.reg r)] (fun t => t.pc = s.pc + 2) ∧
    Completes .outIndC0 s [.pc] [.ioWrite s.main.bc 0] (fun t => t.pc = s.pc + 2)

/-- CPU control (47_io_system.md R396 to R406; 40_fetch_decode.md R135, R136): `HALT`, the delayed `DI` and `EI`, the modes, `I` and `R`, the
no-operations, the degenerate ones among them. `LD A,I` and `LD A,R` put `IFF2`, as it is before the step's commit, in `P`; their other
flags are the spec's own decision D18. That an unrecognised ED byte and a lone prefix are no-operations of their own rests on the tables D2 and
D3; a lone prefix as a complete step is D39, and `NOP` D28 (log 19). -/
def Obligations.CpuControl : Prop :=
  ∀ (s : State) (y : Field3) (b1 : Byte),
    let flags (t : State) : Prop := SzyxFrom t.main.a t.flags ∧ t.flags.h = false ∧ t.flags.n = false ∧ t.flags.p = s.iff2 ∧
      t.pc = s.pc + 2
    Completes .ldAI s (.a :: .pc :: flagsButC) [] (fun t => t.main.a = s.i ∧ flags t) ∧
    Completes .ldARefresh s (.a :: .pc :: flagsButC) [] (fun t => t.main.a = s.r ∧ flags t) ∧
    Completes .nop s [.pc] [] (fun t => t.pc = s.pc + 1) ∧
    Completes .halt s [.halted, .pc] [] (fun t => t.halted = true ∧ t.pc = s.pc + 1) ∧
    Completes .di s [.pendingDi, .pc] [] (fun t => t.pendingDi = true ∧ t.pc = s.pc + 1) ∧
    Completes .ei s [.pendingEi, .pc] [] (fun t => t.pendingEi = true ∧ t.pc = s.pc + 1) ∧
    Completes (.im0 y) s [.im, .pc] [] (fun t => t.im = .im0 ∧ t.pc = s.pc + 2) ∧
    Completes (.im1 y) s [.im, .pc] [] (fun t => t.im = .im1 ∧ t.pc = s.pc + 2) ∧
    Completes (.im2 y) s [.im, .pc] [] (fun t => t.im = .im2 ∧ t.pc = s.pc + 2) ∧
    Completes .ldIA s [.i, .pc] [] (fun t => t.i = s.main.a ∧ t.pc = s.pc + 2) ∧
    Completes .ldRefreshA s [.r, .pc] [] (fun t => t.r = s.main.a ∧ t.pc = s.pc + 2) ∧
    (∀ i ∈ [.edNop00 b1, .edNop77, .edNop7F, .edNop80 b1, .edNopA4 b1, .edNopC0 b1],
      Completes i s [.pc] [] (fun t => t.pc = s.pc + 2)) ∧
    ∀ i ∈ [.loneDd, .loneFd], Completes i s [.pc] [] (fun t => t.pc = s.pc + 1)

/-! ### Block instructions -/

/-- One iteration of `LDI`, `LDD`, `LDIR`, `LDDR` (48_block.md R431 to R434, R447): the byte, the pointers, the count, the flags, and whether `PC` stays
at the instruction with 5 T-states more. -/
def Obligations.BlockTransfer : Prop :=
  ∀ s : State, s.mem.wf = true →
    let v := s.peek s.main.hl
    let n : Byte := BitVec.ofNat 8 (s.main.a.toNat + v.toNat)
    let moved (step : Word) (t : State) : Prop :=
      t.main.de = s.main.de + step ∧ t.main.hl = s.main.hl + step ∧ t.main.bc = s.main.bc - 1 ∧ t.flags.h = false ∧
        t.flags.n = false ∧ (t.flags.p = true ↔ t.main.bc ≠ 0) ∧ t.flags.x = n.getLsbD 3 ∧ t.flags.y = n.getLsbD 1
    let slots : List Slot := [.b, .c, .d, .e, .h, .l, .pc, .fY, .fH, .fX, .fP, .fN]
    let ops : List BusOp := [.memRead s.main.hl v, .memWrite s.main.de v]
    Completes .ldi s slots ops (fun t => moved 1 t ∧ t.pc = s.pc + 2) ∧
    Completes .ldd s slots ops (fun t => moved (-1) t ∧ t.pc = s.pc + 2) ∧
    (s.main.bc = 1 → Completes .ldir s slots ops (fun t => moved 1 t ∧ t.pc = s.pc + 2)) ∧
    (s.main.bc ≠ 1 → Completes .ldir s (.cyc :: slots) ops (fun t => moved 1 t ∧ t.pc = s.pc ∧ t.cyc = s.cyc + 5)) ∧
    (s.main.bc = 1 → Completes .lddr s slots ops (fun t => moved (-1) t ∧ t.pc = s.pc + 2)) ∧
    (s.main.bc ≠ 1 → Completes .lddr s (.cyc :: slots) ops (fun t => moved (-1) t ∧ t.pc = s.pc ∧ t.cyc = s.cyc + 5))

/-- `LDIR` executed as often as `BC` says (48_block.md R433, R447; the fetch of `ED B0` between the iterations is the step's): it leaves `BC = 0`,
the pointers past the blocks and `PC` past the instruction; and if the source is no device, the destination is RAM and no byte of the source
is overwritten, the destination block is a copy of the source block. -/
def Obligations.LdirCopiesTheBlock : Prop :=
  ∀ s : State, s.mem.wf = true → let n := blockCount s
    ∃ t, execTimes .ldir n s = .next t ∧ t.main.bc = 0 ∧ t.pc = s.pc + 2 ∧
      t.main.hl = s.main.hl + BitVec.ofNat 16 n ∧ t.main.de = s.main.de + BitVec.ofNat 16 n ∧ t.main.a = s.main.a ∧ t.sp = s.sp ∧
      t.flags.p = false ∧ t.flags.s = s.flags.s ∧ t.flags.z = s.flags.z ∧ t.flags.c = s.flags.c ∧
      t.cyc = s.cyc + 5 * (n - 1) ∧
      ((∀ k < n, s.isDevice (s.main.hl + BitVec.ofNat 16 k) = false ∧ s.writable (s.main.de + BitVec.ofNat 16 k) = true) →
        (∀ j < n, ∀ k < n, s.main.hl + BitVec.ofNat 16 j ≠ s.main.de + BitVec.ofNat 16 k) →
        (∀ k < n, t.peek (s.main.de + BitVec.ofNat 16 k) = s.peek (s.main.hl + BitVec.ofNat 16 k)) ∧
          ∀ a : Word, s.isDevice a = false → (∀ k < n, a ≠ s.main.de + BitVec.ofNat 16 k) → t.peek a = s.peek a)

/-- One iteration of `CPI`, `CPD`, `CPIR`, `CPDR` (48_block.md R435 to R438, R447): `A` and `C` are kept, a repeating form ends on a match or at
`BC = 0`. The places of `X` and `Y` are the spec's own decision D14; `S` and `Z` are those of the compare, D6 (log 19). -/
def Obligations.BlockSearch : Prop :=
  ∀ s : State,
    let a := s.main.a
    let v := s.peek s.main.hl
    let r : Byte := BitVec.ofInt 8 ((a.toNat : Int) - v.toNat)
    let searched (step : Word) (t : State) : Prop :=
      let n : Byte := BitVec.ofInt 8 ((r.toNat : Int) - t.flags.h.toNat)
      t.main.hl = s.main.hl + step ∧ t.main.bc = s.main.bc - 1 ∧ t.flags.s = r.getLsbD 7 ∧ (t.flags.z = true ↔ a = v) ∧
        (t.flags.h = true ↔ a.toNat % 16 < v.toNat % 16) ∧ t.flags.n = true ∧ (t.flags.p = true ↔ t.main.bc ≠ 0) ∧
        t.flags.x = n.getLsbD 3 ∧ t.flags.y = n.getLsbD 1
    let slots : List Slot := [.b, .c, .h, .l, .pc] ++ flagsButC
    let ops : List BusOp := [.memRead s.main.hl v]
    Completes .cpi s slots ops (fun t => searched 1 t ∧ t.pc = s.pc + 2) ∧
    Completes .cpd s slots ops (fun t => searched (-1) t ∧ t.pc = s.pc + 2) ∧
    (s.main.bc = 1 ∨ a = v → Completes .cpir s slots ops (fun t => searched 1 t ∧ t.pc = s.pc + 2)) ∧
    (s.main.bc ≠ 1 → a ≠ v →
      Completes .cpir s (.cyc :: slots) ops (fun t => searched 1 t ∧ t.pc = s.pc ∧ t.cyc = s.cyc + 5)) ∧
    (s.main.bc = 1 ∨ a = v → Completes .cpdr s slots ops (fun t => searched (-1) t ∧ t.pc = s.pc + 2)) ∧
    (s.main.bc ≠ 1 → a ≠ v →
      Completes .cpdr s (.cyc :: slots) ops (fun t => searched (-1) t ∧ t.pc = s.pc ∧ t.cyc = s.cyc + 5))

/-- One iteration of the eight block I/O instructions (48_block.md R439 to R447): the port is `BC` before `B` is decremented and the flags are
those of `DEC B` (the spec's own decision D16; `S,Z,X,Y` of `DEC` are D6, log 19); a repeating form ends on `BC = 0`, or on `B = 0` under the parameter (D13, log 6). -/
def Obligations.BlockInputOutput : Prop :=
  ∀ s : State, s.mem.wf = true →
    let b := s.main.b
    let moved (step : Word) (t : State) : Prop :=
      t.main.hl = s.main.hl + step ∧ t.main.b = b - 1 ∧ SzyxFrom t.main.b t.flags ∧ (t.flags.h = true ↔ b.toNat % 16 = 0) ∧
        (t.flags.p = true ↔ b = 0x80) ∧ t.flags.n = true
    let input := s.ioAnswer s.main.bc
    let inOps : List BusOp := [.ioRead s.main.bc input, .memWrite s.main.hl input]
    let outOps : List BusOp := [.memRead s.main.hl (s.peek s.main.hl), .ioWrite s.main.bc (s.peek s.main.hl)]
    let slots : List Slot := [.b, .h, .l, .pc] ++ flagsButC
    let done : Prop := b = 1 ∧ (s.params.ioBlockRepeatOnBc = true → s.main.c = 0)
    Completes .ini s slots inOps (fun t => moved 1 t ∧ t.pc = s.pc + 2) ∧
    Completes .ind s slots inOps (fun t => moved (-1) t ∧ t.pc = s.pc + 2) ∧
    Completes .outi s slots outOps (fun t => moved 1 t ∧ t.pc = s.pc + 2) ∧
    Completes .outd s slots outOps (fun t => moved (-1) t ∧ t.pc = s.pc + 2) ∧
    (done →
      Completes .inir s slots inOps (fun t => moved 1 t ∧ t.pc = s.pc + 2) ∧
      Completes .indr s slots inOps (fun t => moved (-1) t ∧ t.pc = s.pc + 2) ∧
      Completes .otir s slots outOps (fun t => moved 1 t ∧ t.pc = s.pc + 2) ∧
      Completes .otdr s slots outOps (fun t => moved (-1) t ∧ t.pc = s.pc + 2)) ∧
    (¬done →
      Completes .inir s (.cyc :: slots) inOps (fun t => moved 1 t ∧ t.pc = s.pc ∧ t.cyc = s.cyc + 5) ∧
      Completes .indr s (.cyc :: slots) inOps (fun t => moved (-1) t ∧ t.pc = s.pc ∧ t.cyc = s.cyc + 5) ∧
      Completes .otir s (.cyc :: slots) outOps (fun t => moved 1 t ∧ t.pc = s.pc ∧ t.cyc = s.cyc + 5) ∧
      Completes .otdr s (.cyc :: slots) outOps (fun t => moved (-1) t ∧ t.pc = s.pc ∧ t.cyc = s.cyc + 5))

/-! ### Index registers -/

/-- The loads of the DD and FD planes (49_index.md R463 to R466, R480 to R482): beside an `(XY+d)` operand `H` and `L` are the ordinary ones (R461),
and the address is `XY` plus the signed displacement, wrapping (R462). In `LD (nn),XY` and `LD XY,(nn)` the low byte at the lower address and
the low byte accessed first are the spec's own decisions D4, which R67 (20_memory.md) marks for these instructions, and D9 (log 19). -/
def Obligations.IndexLoads : Prop :=
  ∀ (s : State) (r : Reg8) (n d : Byte) (nn : Word),
    let ea (xy : Word) : Word := BitVec.ofInt 16 ((xy.toNat : Int) + d.toInt)
    Completes (.ldIxNn nn) s [.ixh, .ixl, .pc] [] (fun t => t.ix = nn ∧ t.pc = s.pc + 4) ∧
    Completes (.ldIyNn nn) s [.iyh, .iyl, .pc] [] (fun t => t.iy = nn ∧ t.pc = s.pc + 4) ∧
    Completes (.ldIxIndNn nn) s [.ixh, .ixl, .pc] (read16Ops s nn) (fun t => t.ix = s.word nn ∧ t.pc = s.pc + 4) ∧
    Completes (.ldIyIndNn nn) s [.iyh, .iyl, .pc] (read16Ops s nn) (fun t => t.iy = s.word nn ∧ t.pc = s.pc + 4) ∧
    Completes .ldSpIx s [.sp, .pc] [] (fun t => t.sp = s.ix ∧ t.pc = s.pc + 2) ∧
    Completes .ldSpIy s [.sp, .pc] [] (fun t => t.sp = s.iy ∧ t.pc = s.pc + 2) ∧
    Completes (.ldRIndIxd r d) s [regSlot r, .pc] [.memRead (ea s.ix) (s.peek (ea s.ix))]
      (fun t => t.reg r = s.peek (ea s.ix) ∧ t.pc = s.pc + 3) ∧
    Completes (.ldRIndIyd r d) s [regSlot r, .pc] [.memRead (ea s.iy) (s.peek (ea s.iy))]
      (fun t => t.reg r = s.peek (ea s.iy) ∧ t.pc = s.pc + 3) ∧
    (s.mem.wf = true →
      Completes (.ldIndNnIx nn) s [.pc] (write16Ops nn s.ix) (fun t => Stored16 t nn s.ix ∧ t.pc = s.pc + 4) ∧
      Completes (.ldIndNnIy nn) s [.pc] (write16Ops nn s.iy) (fun t => Stored16 t nn s.iy ∧ t.pc = s.pc + 4) ∧
      Completes (.ldIndIxdR d r) s [.pc] [.memWrite (ea s.ix) (s.reg r)] (fun t => t.pc = s.pc + 3) ∧
      Completes (.ldIndIydR d r) s [.pc] [.memWrite (ea s.iy) (s.reg r)] (fun t => t.pc = s.pc + 3) ∧
      Completes (.ldIndIxdN d n) s [.pc] [.memWrite (ea s.ix) n] (fun t => t.pc = s.pc + 4) ∧
      Completes (.ldIndIydN d n) s [.pc] [.memWrite (ea s.iy) n] (fun t => t.pc = s.pc + 4))

/-- The loads of the halves `IXH`, `IXL`, `IYH`, `IYL` (49_index.md R499 to R505): the other half is kept. -/
def Obligations.IndexHalfLoads : Prop :=
  ∀ (s : State) (r : Reg8) (n : Byte),
    Completes (.ldIxhN n) s [.ixh, .pc] [] (fun t => wordHi t.ix = n ∧ t.pc = s.pc + 3) ∧
    Completes (.ldIxlN n) s [.ixl, .pc] [] (fun t => wordLo t.ix = n ∧ t.pc = s.pc + 3) ∧
    Completes (.ldIyhN n) s [.iyh, .pc] [] (fun t => wordHi t.iy = n ∧ t.pc = s.pc + 3) ∧
    Completes (.ldIylN n) s [.iyl, .pc] [] (fun t => wordLo t.iy = n ∧ t.pc = s.pc + 3) ∧
    Completes (.ldRIxh r) s [regSlot r, .pc] [] (fun t => t.reg r = wordHi s.ix ∧ t.pc = s.pc + 2) ∧
    Completes (.ldRIxl r) s [regSlot r, .pc] [] (fun t => t.reg r = wordLo s.ix ∧ t.pc = s.pc + 2) ∧
    Completes (.ldRIyh r) s [regSlot r, .pc] [] (fun t => t.reg r = wordHi s.iy ∧ t.pc = s.pc + 2) ∧
    Completes (.ldRIyl r) s [regSlot r, .pc] [] (fun t => t.reg r = wordLo s.iy ∧ t.pc = s.pc + 2) ∧
    Completes (.ldIxhR r) s [.ixh, .pc] [] (fun t => wordHi t.ix = s.reg r ∧ t.pc = s.pc + 2) ∧
    Completes (.ldIxlR r) s [.ixl, .pc] [] (fun t => wordLo t.ix = s.reg r ∧ t.pc = s.pc + 2) ∧
    Completes (.ldIyhR r) s [.iyh, .pc] [] (fun t => wordHi t.iy = s.reg r ∧ t.pc = s.pc + 2) ∧
    Completes (.ldIylR r) s [.iyl, .pc] [] (fun t => wordLo t.iy = s.reg r ∧ t.pc = s.pc + 2) ∧
    Completes .ldIxhIxh s [.pc] [] (fun t => t.pc = s.pc + 2) ∧
    Completes .ldIxlIxl s [.pc] [] (fun t => t.pc = s.pc + 2) ∧
    Completes .ldIyhIyh s [.pc] [] (fun t => t.pc = s.pc + 2) ∧
    Completes .ldIylIyl s [.pc] [] (fun t => t.pc = s.pc + 2) ∧
    Completes .ldIxhIxl s [.ixh, .pc] [] (fun t => wordHi t.ix = wordLo s.ix ∧ t.pc = s.pc + 2) ∧
    Completes .ldIxlIxh s [.ixl, .pc] [] (fun t => wordLo t.ix = wordHi s.ix ∧ t.pc = s.pc + 2) ∧
    Completes .ldIyhIyl s [.iyh, .pc] [] (fun t => wordHi t.iy = wordLo s.iy ∧ t.pc = s.pc + 2) ∧
    Completes .ldIylIyh s [.iyl, .pc] [] (fun t => wordLo t.iy = wordHi s.iy ∧ t.pc = s.pc + 2)

/-! ### The host memory -/

/-- A step, whatever the host calls, keeps the parameters and every byte of ROM: a write there is a no-op (20_memory.md R60, R61, R62; the memory
map is the model's form of the spec's parameter, log 3). -/
def Obligations.ReadOnlyMemoryNeverChanges : Prop :=
  ∀ s t : State, s.mem.wf = true → step s = .next t →
    t.params = s.params ∧ ∀ a : Word, s.kindAt a = .rom → t.peek a = s.peek a
end

