-- ==== Sys2Proof/Laws/Bits.lean ====
section
/-! SUPPORT. The byte-order, sign-extension and flag-byte helpers: round trips and what they mean as numbers. -/

namespace Sys2Proof

/-- The bits of `hi:lo`. -/
theorem getLsbD_mkWord (hi lo : Byte) (i : Nat) :
    (mkWord hi lo).getLsbD i = if i < 8 then lo.getLsbD i else hi.getLsbD (i - 8) :=
  BitVec.getLsbD_append

@[simp] theorem wordHi_mkWord (hi lo : Byte) : wordHi (mkWord hi lo) = hi := by
  apply BitVec.eq_of_getLsbD_eq
  intro i h
  simp [wordHi, getLsbD_mkWord, h]

@[simp] theorem wordLo_mkWord (hi lo : Byte) : wordLo (mkWord hi lo) = lo := by
  apply BitVec.eq_of_getLsbD_eq
  intro i h
  simp [wordLo, getLsbD_mkWord, h]

@[simp] theorem mkWord_wordHi_wordLo (v : Word) : mkWord (wordHi v) (wordLo v) = v := by
  apply BitVec.eq_of_getLsbD_eq
  intro i h
  simp only [getLsbD_mkWord, wordHi, wordLo, BitVec.getLsbD_extractLsb']
  split
  · simp_all
  · have h1 : 8 + (i - 8) = i := by omega
    have h2 : i - 8 < 8 := by omega
    simp [h1, h2]

/-- `hi:lo` is `256 * hi + lo` (00_scope.md R9). -/
theorem mkWord_toNat (hi lo : Byte) : (mkWord hi lo).toNat = 256 * hi.toNat + lo.toNat := by
  simp only [mkWord, BitVec.toNat_append]
  rw [Nat.shiftLeft_eq, ← Nat.mul_comm, Nat.mul_comm]
  have := lo.isLt
  rw [show hi.toNat * 2 ^ 8 = 2 ^ 8 * hi.toNat by ring, ← Nat.two_pow_add_eq_or_of_lt this]

/-- `sext_16` reads the byte as a signed number (00_scope.md R8). -/
theorem sext16_toInt (d : Byte) : (sext16 d).toInt = d.toInt := by
  revert d; decide

theorem sext16_eq_ofInt (d : Byte) : sext16 d = BitVec.ofInt 16 d.toInt := by
  revert d; decide

namespace Machine

@[simp] theorem unpack_pack (g : Flags) : unpackFlags g.pack = g := by
  obtain ⟨s, z, y, h, x, p, n, c⟩ := g
  revert s z y h x p n c; decide

@[simp] theorem pack_unpack (v : Byte) : (unpackFlags v).pack = v := by
  revert v; decide

/-- Flags are equal when their bytes are. -/
theorem pack_injective {g g' : Flags} (h : g.pack = g'.pack) : g = g' := by
  rw [← unpack_pack g, h, unpack_pack]

end Machine
end Sys2Proof
end

