-- ==== Sys2Proof/Laws/Memory.lean ====
section
/-! SUPPORT. The laws of the host memory: a read after a write, the canonical form kept by every operation that stores. -/

namespace Sys2Proof.Machine

/-- Below where the cells begin, nothing is listed. -/
theorem Memory.read_below (m : Memory) (lo b : Nat) (h : memoryWfFrom lo m = true) (hb : b < lo) :
    m.read b = unlistedByte := by
  induction m generalizing lo with
  | nil => rfl
  | cons c m ih =>
    obtain ⟨k, v⟩ := c
    simp only [memoryWfFrom, Bool.and_eq_true, decide_eq_true_eq] at h
    have hk : k ≠ b := by omega
    simp only [Memory.read, hk, if_false]
    exact ih (k + 1) h.2 (by omega)

/-- Cells that begin at `lo` also begin at any lower address. -/
theorem memoryWfFrom_mono (m : Memory) (lo lo' : Nat) (h : memoryWfFrom lo m = true) (hl : lo' ≤ lo) :
    memoryWfFrom lo' m = true := by
  cases m with
  | nil => rfl
  | cons c m =>
    obtain ⟨k, v⟩ := c
    simp only [memoryWfFrom, Bool.and_eq_true, decide_eq_true_eq] at h ⊢
    exact ⟨⟨⟨by omega, h.1.1.2⟩, h.1.2⟩, h.2⟩

theorem Memory.read_write_from (m : Memory) (lo a b : Nat) (v : Byte) (h : memoryWfFrom lo m = true) :
    (m.write a v).read b = if a = b then v else m.read b := by
  induction m generalizing lo with
  | nil =>
    simp only [Memory.write]
    split <;> simp_all [Memory.read]
  | cons c m ih =>
    obtain ⟨k, w⟩ := c
    simp only [memoryWfFrom, Bool.and_eq_true, decide_eq_true_eq] at h
    have hb := Memory.read_below m (k + 1) b h.2
    have := ih (k + 1) h.2
    simp only [Memory.write]
    split_ifs <;> (try simp only [Memory.read]) <;> (try split_ifs) <;> simp_all
    apply hb
    omega

/-- A read after a write: the value at the written address, the old byte at every other. -/
theorem Memory.read_write (m : Memory) (a b : Nat) (v : Byte) (h : m.wf = true) :
    (m.write a v).read b = if a = b then v else m.read b :=
  Memory.read_write_from m 0 a b v h

theorem memoryWfFrom_write (m : Memory) (lo a : Nat) (v : Byte) (h : memoryWfFrom lo m = true) (hl : lo ≤ a)
    (ha : a < 0x10000) : memoryWfFrom lo (m.write a v) = true := by
  induction m generalizing lo with
  | nil =>
    simp only [Memory.write]
    split <;> simp_all [memoryWfFrom]
  | cons c m ih =>
    obtain ⟨k, w⟩ := c
    have h' := h
    simp only [memoryWfFrom, Bool.and_eq_true, decide_eq_true_eq] at h
    simp only [Memory.write]
    split_ifs with h1 h2 h3 h4
    · exact h'
    · simp only [memoryWfFrom, Bool.and_eq_true, decide_eq_true_eq]
      exact ⟨⟨⟨hl, ha⟩, by simpa using h2⟩, ⟨⟨⟨by omega, h.1.1.2⟩, h.1.2⟩, h.2⟩⟩
    · exact memoryWfFrom_mono m _ _ h.2 (by omega)
    · subst h3
      simp only [memoryWfFrom, Bool.and_eq_true, decide_eq_true_eq]
      exact ⟨⟨⟨hl, ha⟩, by simpa using h4⟩, h.2⟩
    · simp only [memoryWfFrom, Bool.and_eq_true, decide_eq_true_eq]
      exact ⟨h.1, ih (k + 1) h.2 (by omega)⟩

/-- A write at a 16-bit address keeps the canonical form. -/
theorem Memory.wf_write (m : Memory) (a : Word) (v : Byte) (h : m.wf = true) : (m.write a.toNat v).wf = true :=
  memoryWfFrom_write m 0 a.toNat v h (Nat.zero_le _) a.isLt

/-- Placing bytes keeps the canonical form. -/
theorem wf_placeBytes (bs : List Byte) (m : Memory) (a : Word) (h : m.wf = true) : (placeBytes m a bs).wf = true := by
  induction bs generalizing m a with
  | nil => exact h
  | cons b bs ih => exact ih _ _ (Memory.wf_write m a b h)

/-! ### The memory map decides what a read and a write do (20_memory.md R61, R62) -/

/-- The map depends on the parameters only. -/
theorem kindAt_of_params_eq {s t : State} (h : t.params = s.params) (a : Word) : t.kindAt a = s.kindAt a := by
  simp only [State.kindAt, h]

theorem isDevice_of_params_eq {s t : State} (h : t.params = s.params) (a : Word) : t.isDevice a = s.isDevice a := by
  simp only [State.isDevice, kindAt_of_params_eq h]

theorem writable_of_params_eq {s t : State} (h : t.params = s.params) (a : Word) : t.writable a = s.writable a := by
  simp only [State.writable, kindAt_of_params_eq h]

/-- A byte of RAM is no device. -/
theorem isDevice_of_writable {s : State} {a : Word} (h : s.writable a = true) : s.isDevice a = false := by
  simp only [State.writable, State.isDevice, beq_iff_eq, beq_eq_false_iff_ne] at *
  simp [h]

/-- Outside the device regions a read answers the cell. -/
theorem peek_cell {s : State} {a : Word} (h : s.isDevice a = false) : s.peek a = s.mem.read a.toNat := by
  simp [State.peek, h]

/-- Without a memory map all is RAM. -/
theorem kindAt_nil {s : State} (h : s.params.memMap = []) (a : Word) : s.kindAt a = .ram := by
  simp [State.kindAt, Config.Params.kindAt, h, Config.kindIn]

theorem storeCell_ram {p : Config.Params} {a : Word} (h : p.kindAt a = .ram) (m : Memory) (v : Byte) :
    storeCell p m a v = m.write a.toNat v := by
  simp [storeCell, h]

/-- A store outside RAM is a no-op. -/
theorem storeCell_of_ne {p : Config.Params} {a : Word} (h : p.kindAt a ≠ .ram) (m : Memory) (v : Byte) :
    storeCell p m a v = m := by
  simp [storeCell, h]

theorem storeCell_wf (p : Config.Params) (m : Memory) (a : Word) (v : Byte) (h : m.wf = true) :
    (storeCell p m a v).wf = true := by
  unfold storeCell
  split
  · exact Memory.wf_write m a v h
  · exact h

/-- What a cell holds after a store. -/
theorem storeCell_read (p : Config.Params) (m : Memory) (a b : Word) (v : Byte) (h : m.wf = true) :
    (storeCell p m a v).read b.toNat = if a = b ∧ p.kindAt a = .ram then v else m.read b.toNat := by
  by_cases hr : p.kindAt a = .ram
  · simp [storeCell_ram hr, Memory.read_write m _ _ _ h, BitVec.toNat_inj, hr]
  · simp [storeCell_of_ne hr, hr]

/-! ### The bus operations on memory -/

@[simp] theorem memRead_mem (s : State) (a : Word) : (s.memRead a).2.mem = s.mem := rfl

theorem memWrite_wf (s : State) (a : Word) (v : Byte) (h : s.mem.wf = true) : (s.memWrite a v).mem.wf = true :=
  storeCell_wf s.params s.mem a v h

/-- What an address that is no device reads after a store. -/
theorem memWrite_peek (s : State) (a b : Word) (v : Byte) (h : s.mem.wf = true) (hb : s.isDevice b = false) :
    (s.memWrite a v).peek b = if a = b ∧ s.writable a = true then v else s.peek b := by
  have hb' : (s.memWrite a v).isDevice b = false := (isDevice_of_params_eq rfl b).trans hb
  have hw : s.writable a = true ↔ s.params.kindAt a = .ram := by simp [State.writable, State.kindAt]
  rw [peek_cell hb, peek_cell hb']
  simp only [hw]
  exact storeCell_read s.params s.mem a b v h

theorem memWrite16_wf (s : State) (a v : Word) (h : s.mem.wf = true) : (s.memWrite16 a v).mem.wf = true :=
  memWrite_wf _ _ _ (memWrite_wf s a _ h)

theorem push16_wf (s : State) (v : Word) (h : s.mem.wf = true) : (s.push16 v).mem.wf = true :=
  memWrite_wf _ _ _ (memWrite_wf (s.setSp (s.sp - 1)) _ _ h)

/-! ### What decides a read -/

/-- Outside the device regions the memory decides it. -/
theorem peek_of_mem_eq {s t : State} (hm : t.mem = s.mem) (hp : t.params = s.params) {a : Word} (ha : s.isDevice a = false) :
    t.peek a = s.peek a := by
  rw [peek_cell ha, peek_cell ((isDevice_of_params_eq hp a).trans ha), hm]

/-- In a device region the operations so far and the prepared answers decide it too. -/
theorem peek_of_eq {s t : State} (hm : t.mem = s.mem) (hp : t.params = s.params) (hb : t.bus = s.bus)
    (hh : t.hostAnswers = s.hostAnswers) (a : Word) : t.peek a = s.peek a := by
  simp only [State.peek, State.nextAnswer, isDevice_of_params_eq hp, hm, hb, hh]

/-- So do the bytes of a run of fetches: what they answer depends on nothing else. -/
theorem fetchByte_of_eq {s t : State} (hm : t.mem = s.mem) (hp : t.params = s.params) (hb : t.bus = s.bus)
    (hh : t.hostAnswers = s.hostAnswers) (a : Word) (k : Nat) : t.fetchByte a k = s.fetchByte a k := by
  have hx : ∀ (k : Nat) (s t : State) (a b : Word), t.mem = s.mem → t.params = s.params → t.bus = s.bus →
      t.hostAnswers = s.hostAnswers → (t.fetchBytes a k).peek b = (s.fetchBytes a k).peek b := by
    intro k
    induction k with
    | zero => intro s t a b h1 h2 h3 h4; exact peek_of_eq h1 h2 h3 h4 b
    | succ k ih =>
      intro s t a b h1 h2 h3 h4
      have hpk := peek_of_eq h1 h2 h3 h4 a
      refine ih _ _ _ _ h1 h2 ?_ ?_
      · simp only [State.memRead, hpk, h3]
      · simp only [State.memRead, State.answersAfter, isDevice_of_params_eq h2, h4]
  exact hx k s t a _ hm hp hb hh

/-- Outside the device regions the bytes fetched are the bytes that stand there. -/
theorem fetchByte_cell (s : State) (a : Word) (k : Nat) (h : s.isDevice (a + BitVec.ofNat 16 k) = false) :
    s.fetchByte a k = s.peek (a + BitVec.ofNat 16 k) := by
  have hx : ∀ (k : Nat) (s : State) (a : Word), (s.fetchBytes a k).mem = s.mem ∧ (s.fetchBytes a k).params = s.params := by
    intro k
    induction k with
    | zero => intro s a; exact ⟨rfl, rfl⟩
    | succ k ih => intro s a; exact ih _ _
  exact peek_of_mem_eq (hx k s a).1 (hx k s a).2 h

end Sys2Proof.Machine
end

