-- ==== Sys2Proof/Laws/State.lean ====
section
/-! SUPPORT. One lemma per field per named update: what each update of the state writes and what it leaves, so that no proof unfolds a
record update. -/

namespace Sys2Proof.Machine

/-! ### `setReg` -/
@[simp] theorem setReg_main (s : State) (g : Reg8) (v : Byte) : (s.setReg g v).main = s.main.set g v := rfl
@[simp] theorem setReg_shadow (s : State) (g : Reg8) (v : Byte) : (s.setReg g v).shadow = s.shadow := rfl
@[simp] theorem setReg_ix (s : State) (g : Reg8) (v : Byte) : (s.setReg g v).ix = s.ix := rfl
@[simp] theorem setReg_iy (s : State) (g : Reg8) (v : Byte) : (s.setReg g v).iy = s.iy := rfl
@[simp] theorem setReg_sp (s : State) (g : Reg8) (v : Byte) : (s.setReg g v).sp = s.sp := rfl
@[simp] theorem setReg_pc (s : State) (g : Reg8) (v : Byte) : (s.setReg g v).pc = s.pc := rfl
@[simp] theorem setReg_i (s : State) (g : Reg8) (v : Byte) : (s.setReg g v).i = s.i := rfl
@[simp] theorem setReg_r (s : State) (g : Reg8) (v : Byte) : (s.setReg g v).r = s.r := rfl
@[simp] theorem setReg_iff1 (s : State) (g : Reg8) (v : Byte) : (s.setReg g v).iff1 = s.iff1 := rfl
@[simp] theorem setReg_iff2 (s : State) (g : Reg8) (v : Byte) : (s.setReg g v).iff2 = s.iff2 := rfl
@[simp] theorem setReg_im (s : State) (g : Reg8) (v : Byte) : (s.setReg g v).im = s.im := rfl
@[simp] theorem setReg_halted (s : State) (g : Reg8) (v : Byte) : (s.setReg g v).halted = s.halted := rfl
@[simp] theorem setReg_pendingDi (s : State) (g : Reg8) (v : Byte) : (s.setReg g v).pendingDi = s.pendingDi := rfl
@[simp] theorem setReg_pendingEi (s : State) (g : Reg8) (v : Byte) : (s.setReg g v).pendingEi = s.pendingEi := rfl
@[simp] theorem setReg_cyc (s : State) (g : Reg8) (v : Byte) : (s.setReg g v).cyc = s.cyc := rfl
@[simp] theorem setReg_mem (s : State) (g : Reg8) (v : Byte) : (s.setReg g v).mem = s.mem := rfl
@[simp] theorem setReg_params (s : State) (g : Reg8) (v : Byte) : (s.setReg g v).params = s.params := rfl
@[simp] theorem setReg_bus (s : State) (g : Reg8) (v : Byte) : (s.setReg g v).bus = s.bus := rfl
@[simp] theorem setReg_hostAnswers (s : State) (g : Reg8) (v : Byte) : (s.setReg g v).hostAnswers = s.hostAnswers := rfl
@[simp] theorem setReg_schedule (s : State) (g : Reg8) (v : Byte) : (s.setReg g v).schedule = s.schedule := rfl
@[simp] theorem setReg_stepReturn (s : State) (g : Reg8) (v : Byte) : (s.setReg g v).stepReturn = s.stepReturn := rfl
@[simp] theorem setReg_freeCount (s : State) (g : Reg8) (v : Byte) : (s.setReg g v).freeCount = s.freeCount := rfl

/-! ### `setPair` -/
@[simp] theorem setPair_shadow (s : State) (p : Pair) (v : Word) : (s.setPair p v).shadow = s.shadow := by cases p <;> rfl
@[simp] theorem setPair_ix (s : State) (p : Pair) (v : Word) : (s.setPair p v).ix = s.ix := by cases p <;> rfl
@[simp] theorem setPair_iy (s : State) (p : Pair) (v : Word) : (s.setPair p v).iy = s.iy := by cases p <;> rfl
@[simp] theorem setPair_pc (s : State) (p : Pair) (v : Word) : (s.setPair p v).pc = s.pc := by cases p <;> rfl
@[simp] theorem setPair_i (s : State) (p : Pair) (v : Word) : (s.setPair p v).i = s.i := by cases p <;> rfl
@[simp] theorem setPair_r (s : State) (p : Pair) (v : Word) : (s.setPair p v).r = s.r := by cases p <;> rfl
@[simp] theorem setPair_iff1 (s : State) (p : Pair) (v : Word) : (s.setPair p v).iff1 = s.iff1 := by cases p <;> rfl
@[simp] theorem setPair_iff2 (s : State) (p : Pair) (v : Word) : (s.setPair p v).iff2 = s.iff2 := by cases p <;> rfl
@[simp] theorem setPair_im (s : State) (p : Pair) (v : Word) : (s.setPair p v).im = s.im := by cases p <;> rfl
@[simp] theorem setPair_halted (s : State) (p : Pair) (v : Word) : (s.setPair p v).halted = s.halted := by cases p <;> rfl
@[simp] theorem setPair_pendingDi (s : State) (p : Pair) (v : Word) : (s.setPair p v).pendingDi = s.pendingDi := by cases p <;> rfl
@[simp] theorem setPair_pendingEi (s : State) (p : Pair) (v : Word) : (s.setPair p v).pendingEi = s.pendingEi := by cases p <;> rfl
@[simp] theorem setPair_cyc (s : State) (p : Pair) (v : Word) : (s.setPair p v).cyc = s.cyc := by cases p <;> rfl
@[simp] theorem setPair_mem (s : State) (p : Pair) (v : Word) : (s.setPair p v).mem = s.mem := by cases p <;> rfl
@[simp] theorem setPair_params (s : State) (p : Pair) (v : Word) : (s.setPair p v).params = s.params := by cases p <;> rfl
@[simp] theorem setPair_bus (s : State) (p : Pair) (v : Word) : (s.setPair p v).bus = s.bus := by cases p <;> rfl
@[simp] theorem setPair_hostAnswers (s : State) (p : Pair) (v : Word) : (s.setPair p v).hostAnswers = s.hostAnswers := by cases p <;> rfl
@[simp] theorem setPair_schedule (s : State) (p : Pair) (v : Word) : (s.setPair p v).schedule = s.schedule := by cases p <;> rfl
@[simp] theorem setPair_stepReturn (s : State) (p : Pair) (v : Word) : (s.setPair p v).stepReturn = s.stepReturn := by cases p <;> rfl
@[simp] theorem setPair_freeCount (s : State) (p : Pair) (v : Word) : (s.setPair p v).freeCount = s.freeCount := by cases p <;> rfl

/-! ### `setPairQ` -/
@[simp] theorem setPairQ_shadow (s : State) (p : PairQ) (v : Word) : (s.setPairQ p v).shadow = s.shadow := by cases p <;> rfl
@[simp] theorem setPairQ_ix (s : State) (p : PairQ) (v : Word) : (s.setPairQ p v).ix = s.ix := by cases p <;> rfl
@[simp] theorem setPairQ_iy (s : State) (p : PairQ) (v : Word) : (s.setPairQ p v).iy = s.iy := by cases p <;> rfl
@[simp] theorem setPairQ_sp (s : State) (p : PairQ) (v : Word) : (s.setPairQ p v).sp = s.sp := by cases p <;> rfl
@[simp] theorem setPairQ_pc (s : State) (p : PairQ) (v : Word) : (s.setPairQ p v).pc = s.pc := by cases p <;> rfl
@[simp] theorem setPairQ_i (s : State) (p : PairQ) (v : Word) : (s.setPairQ p v).i = s.i := by cases p <;> rfl
@[simp] theorem setPairQ_r (s : State) (p : PairQ) (v : Word) : (s.setPairQ p v).r = s.r := by cases p <;> rfl
@[simp] theorem setPairQ_iff1 (s : State) (p : PairQ) (v : Word) : (s.setPairQ p v).iff1 = s.iff1 := by cases p <;> rfl
@[simp] theorem setPairQ_iff2 (s : State) (p : PairQ) (v : Word) : (s.setPairQ p v).iff2 = s.iff2 := by cases p <;> rfl
@[simp] theorem setPairQ_im (s : State) (p : PairQ) (v : Word) : (s.setPairQ p v).im = s.im := by cases p <;> rfl
@[simp] theorem setPairQ_halted (s : State) (p : PairQ) (v : Word) : (s.setPairQ p v).halted = s.halted := by cases p <;> rfl
@[simp] theorem setPairQ_pendingDi (s : State) (p : PairQ) (v : Word) : (s.setPairQ p v).pendingDi = s.pendingDi := by cases p <;> rfl
@[simp] theorem setPairQ_pendingEi (s : State) (p : PairQ) (v : Word) : (s.setPairQ p v).pendingEi = s.pendingEi := by cases p <;> rfl
@[simp] theorem setPairQ_cyc (s : State) (p : PairQ) (v : Word) : (s.setPairQ p v).cyc = s.cyc := by cases p <;> rfl
@[simp] theorem setPairQ_mem (s : State) (p : PairQ) (v : Word) : (s.setPairQ p v).mem = s.mem := by cases p <;> rfl
@[simp] theorem setPairQ_params (s : State) (p : PairQ) (v : Word) : (s.setPairQ p v).params = s.params := by cases p <;> rfl
@[simp] theorem setPairQ_bus (s : State) (p : PairQ) (v : Word) : (s.setPairQ p v).bus = s.bus := by cases p <;> rfl
@[simp] theorem setPairQ_hostAnswers (s : State) (p : PairQ) (v : Word) : (s.setPairQ p v).hostAnswers = s.hostAnswers := by cases p <;> rfl
@[simp] theorem setPairQ_schedule (s : State) (p : PairQ) (v : Word) : (s.setPairQ p v).schedule = s.schedule := by cases p <;> rfl
@[simp] theorem setPairQ_stepReturn (s : State) (p : PairQ) (v : Word) : (s.setPairQ p v).stepReturn = s.stepReturn := by cases p <;> rfl
@[simp] theorem setPairQ_freeCount (s : State) (p : PairQ) (v : Word) : (s.setPairQ p v).freeCount = s.freeCount := by cases p <;> rfl

/-! ### `setIdx` -/
@[simp] theorem setIdx_main (s : State) (x : Index) (v : Word) : (s.setIdx x v).main = s.main := by cases x <;> rfl
@[simp] theorem setIdx_shadow (s : State) (x : Index) (v : Word) : (s.setIdx x v).shadow = s.shadow := by cases x <;> rfl
@[simp] theorem setIdx_sp (s : State) (x : Index) (v : Word) : (s.setIdx x v).sp = s.sp := by cases x <;> rfl
@[simp] theorem setIdx_pc (s : State) (x : Index) (v : Word) : (s.setIdx x v).pc = s.pc := by cases x <;> rfl
@[simp] theorem setIdx_i (s : State) (x : Index) (v : Word) : (s.setIdx x v).i = s.i := by cases x <;> rfl
@[simp] theorem setIdx_r (s : State) (x : Index) (v : Word) : (s.setIdx x v).r = s.r := by cases x <;> rfl
@[simp] theorem setIdx_iff1 (s : State) (x : Index) (v : Word) : (s.setIdx x v).iff1 = s.iff1 := by cases x <;> rfl
@[simp] theorem setIdx_iff2 (s : State) (x : Index) (v : Word) : (s.setIdx x v).iff2 = s.iff2 := by cases x <;> rfl
@[simp] theorem setIdx_im (s : State) (x : Index) (v : Word) : (s.setIdx x v).im = s.im := by cases x <;> rfl
@[simp] theorem setIdx_halted (s : State) (x : Index) (v : Word) : (s.setIdx x v).halted = s.halted := by cases x <;> rfl
@[simp] theorem setIdx_pendingDi (s : State) (x : Index) (v : Word) : (s.setIdx x v).pendingDi = s.pendingDi := by cases x <;> rfl
@[simp] theorem setIdx_pendingEi (s : State) (x : Index) (v : Word) : (s.setIdx x v).pendingEi = s.pendingEi := by cases x <;> rfl
@[simp] theorem setIdx_cyc (s : State) (x : Index) (v : Word) : (s.setIdx x v).cyc = s.cyc := by cases x <;> rfl
@[simp] theorem setIdx_mem (s : State) (x : Index) (v : Word) : (s.setIdx x v).mem = s.mem := by cases x <;> rfl
@[simp] theorem setIdx_params (s : State) (x : Index) (v : Word) : (s.setIdx x v).params = s.params := by cases x <;> rfl
@[simp] theorem setIdx_bus (s : State) (x : Index) (v : Word) : (s.setIdx x v).bus = s.bus := by cases x <;> rfl
@[simp] theorem setIdx_hostAnswers (s : State) (x : Index) (v : Word) : (s.setIdx x v).hostAnswers = s.hostAnswers := by cases x <;> rfl
@[simp] theorem setIdx_schedule (s : State) (x : Index) (v : Word) : (s.setIdx x v).schedule = s.schedule := by cases x <;> rfl
@[simp] theorem setIdx_stepReturn (s : State) (x : Index) (v : Word) : (s.setIdx x v).stepReturn = s.stepReturn := by cases x <;> rfl
@[simp] theorem setIdx_freeCount (s : State) (x : Index) (v : Word) : (s.setIdx x v).freeCount = s.freeCount := by cases x <;> rfl

/-! ### `setHalf` -/
@[simp] theorem setHalf_main (s : State) (x : Index) (h : Half) (v : Byte) : (s.setHalf x h v).main = s.main := by cases x <;> cases h <;> rfl
@[simp] theorem setHalf_shadow (s : State) (x : Index) (h : Half) (v : Byte) : (s.setHalf x h v).shadow = s.shadow := by cases x <;> cases h <;> rfl
@[simp] theorem setHalf_sp (s : State) (x : Index) (h : Half) (v : Byte) : (s.setHalf x h v).sp = s.sp := by cases x <;> cases h <;> rfl
@[simp] theorem setHalf_pc (s : State) (x : Index) (h : Half) (v : Byte) : (s.setHalf x h v).pc = s.pc := by cases x <;> cases h <;> rfl
@[simp] theorem setHalf_i (s : State) (x : Index) (h : Half) (v : Byte) : (s.setHalf x h v).i = s.i := by cases x <;> cases h <;> rfl
@[simp] theorem setHalf_r (s : State) (x : Index) (h : Half) (v : Byte) : (s.setHalf x h v).r = s.r := by cases x <;> cases h <;> rfl
@[simp] theorem setHalf_iff1 (s : State) (x : Index) (h : Half) (v : Byte) : (s.setHalf x h v).iff1 = s.iff1 := by cases x <;> cases h <;> rfl
@[simp] theorem setHalf_iff2 (s : State) (x : Index) (h : Half) (v : Byte) : (s.setHalf x h v).iff2 = s.iff2 := by cases x <;> cases h <;> rfl
@[simp] theorem setHalf_im (s : State) (x : Index) (h : Half) (v : Byte) : (s.setHalf x h v).im = s.im := by cases x <;> cases h <;> rfl
@[simp] theorem setHalf_halted (s : State) (x : Index) (h : Half) (v : Byte) : (s.setHalf x h v).halted = s.halted := by cases x <;> cases h <;> rfl
@[simp] theorem setHalf_pendingDi (s : State) (x : Index) (h : Half) (v : Byte) : (s.setHalf x h v).pendingDi = s.pendingDi := by cases x <;> cases h <;> rfl
@[simp] theorem setHalf_pendingEi (s : State) (x : Index) (h : Half) (v : Byte) : (s.setHalf x h v).pendingEi = s.pendingEi := by cases x <;> cases h <;> rfl
@[simp] theorem setHalf_cyc (s : State) (x : Index) (h : Half) (v : Byte) : (s.setHalf x h v).cyc = s.cyc := by cases x <;> cases h <;> rfl
@[simp] theorem setHalf_mem (s : State) (x : Index) (h : Half) (v : Byte) : (s.setHalf x h v).mem = s.mem := by cases x <;> cases h <;> rfl
@[simp] theorem setHalf_params (s : State) (x : Index) (h : Half) (v : Byte) : (s.setHalf x h v).params = s.params := by cases x <;> cases h <;> rfl
@[simp] theorem setHalf_bus (s : State) (x : Index) (h : Half) (v : Byte) : (s.setHalf x h v).bus = s.bus := by cases x <;> cases h <;> rfl
@[simp] theorem setHalf_hostAnswers (s : State) (x : Index) (h : Half) (v : Byte) : (s.setHalf x h v).hostAnswers = s.hostAnswers := by cases x <;> cases h <;> rfl
@[simp] theorem setHalf_schedule (s : State) (x : Index) (h : Half) (v : Byte) : (s.setHalf x h v).schedule = s.schedule := by cases x <;> cases h <;> rfl
@[simp] theorem setHalf_stepReturn (s : State) (x : Index) (h : Half) (v : Byte) : (s.setHalf x h v).stepReturn = s.stepReturn := by cases x <;> cases h <;> rfl
@[simp] theorem setHalf_freeCount (s : State) (x : Index) (h : Half) (v : Byte) : (s.setHalf x h v).freeCount = s.freeCount := by cases x <;> cases h <;> rfl

/-! ### `setFlags` -/
@[simp] theorem setFlags_main (s : State) (g : Flags) : (s.setFlags g).main = { s.main with f := g.pack } := rfl
@[simp] theorem setFlags_shadow (s : State) (g : Flags) : (s.setFlags g).shadow = s.shadow := rfl
@[simp] theorem setFlags_ix (s : State) (g : Flags) : (s.setFlags g).ix = s.ix := rfl
@[simp] theorem setFlags_iy (s : State) (g : Flags) : (s.setFlags g).iy = s.iy := rfl
@[simp] theorem setFlags_sp (s : State) (g : Flags) : (s.setFlags g).sp = s.sp := rfl
@[simp] theorem setFlags_pc (s : State) (g : Flags) : (s.setFlags g).pc = s.pc := rfl
@[simp] theorem setFlags_i (s : State) (g : Flags) : (s.setFlags g).i = s.i := rfl
@[simp] theorem setFlags_r (s : State) (g : Flags) : (s.setFlags g).r = s.r := rfl
@[simp] theorem setFlags_iff1 (s : State) (g : Flags) : (s.setFlags g).iff1 = s.iff1 := rfl
@[simp] theorem setFlags_iff2 (s : State) (g : Flags) : (s.setFlags g).iff2 = s.iff2 := rfl
@[simp] theorem setFlags_im (s : State) (g : Flags) : (s.setFlags g).im = s.im := rfl
@[simp] theorem setFlags_halted (s : State) (g : Flags) : (s.setFlags g).halted = s.halted := rfl
@[simp] theorem setFlags_pendingDi (s : State) (g : Flags) : (s.setFlags g).pendingDi = s.pendingDi := rfl
@[simp] theorem setFlags_pendingEi (s : State) (g : Flags) : (s.setFlags g).pendingEi = s.pendingEi := rfl
@[simp] theorem setFlags_cyc (s : State) (g : Flags) : (s.setFlags g).cyc = s.cyc := rfl
@[simp] theorem setFlags_mem (s : State) (g : Flags) : (s.setFlags g).mem = s.mem := rfl
@[simp] theorem setFlags_params (s : State) (g : Flags) : (s.setFlags g).params = s.params := rfl
@[simp] theorem setFlags_bus (s : State) (g : Flags) : (s.setFlags g).bus = s.bus := rfl
@[simp] theorem setFlags_hostAnswers (s : State) (g : Flags) : (s.setFlags g).hostAnswers = s.hostAnswers := rfl
@[simp] theorem setFlags_schedule (s : State) (g : Flags) : (s.setFlags g).schedule = s.schedule := rfl
@[simp] theorem setFlags_stepReturn (s : State) (g : Flags) : (s.setFlags g).stepReturn = s.stepReturn := rfl
@[simp] theorem setFlags_freeCount (s : State) (g : Flags) : (s.setFlags g).freeCount = s.freeCount := rfl

/-! ### `setAF` -/
@[simp] theorem setAF_main (s : State) (q : Byte × Flags) : (s.setAF q).main = { s.main with a := q.1, f := q.2.pack } := rfl
@[simp] theorem setAF_shadow (s : State) (q : Byte × Flags) : (s.setAF q).shadow = s.shadow := rfl
@[simp] theorem setAF_ix (s : State) (q : Byte × Flags) : (s.setAF q).ix = s.ix := rfl
@[simp] theorem setAF_iy (s : State) (q : Byte × Flags) : (s.setAF q).iy = s.iy := rfl
@[simp] theorem setAF_sp (s : State) (q : Byte × Flags) : (s.setAF q).sp = s.sp := rfl
@[simp] theorem setAF_pc (s : State) (q : Byte × Flags) : (s.setAF q).pc = s.pc := rfl
@[simp] theorem setAF_i (s : State) (q : Byte × Flags) : (s.setAF q).i = s.i := rfl
@[simp] theorem setAF_r (s : State) (q : Byte × Flags) : (s.setAF q).r = s.r := rfl
@[simp] theorem setAF_iff1 (s : State) (q : Byte × Flags) : (s.setAF q).iff1 = s.iff1 := rfl
@[simp] theorem setAF_iff2 (s : State) (q : Byte × Flags) : (s.setAF q).iff2 = s.iff2 := rfl
@[simp] theorem setAF_im (s : State) (q : Byte × Flags) : (s.setAF q).im = s.im := rfl
@[simp] theorem setAF_halted (s : State) (q : Byte × Flags) : (s.setAF q).halted = s.halted := rfl
@[simp] theorem setAF_pendingDi (s : State) (q : Byte × Flags) : (s.setAF q).pendingDi = s.pendingDi := rfl
@[simp] theorem setAF_pendingEi (s : State) (q : Byte × Flags) : (s.setAF q).pendingEi = s.pendingEi := rfl
@[simp] theorem setAF_cyc (s : State) (q : Byte × Flags) : (s.setAF q).cyc = s.cyc := rfl
@[simp] theorem setAF_mem (s : State) (q : Byte × Flags) : (s.setAF q).mem = s.mem := rfl
@[simp] theorem setAF_params (s : State) (q : Byte × Flags) : (s.setAF q).params = s.params := rfl
@[simp] theorem setAF_bus (s : State) (q : Byte × Flags) : (s.setAF q).bus = s.bus := rfl
@[simp] theorem setAF_hostAnswers (s : State) (q : Byte × Flags) : (s.setAF q).hostAnswers = s.hostAnswers := rfl
@[simp] theorem setAF_schedule (s : State) (q : Byte × Flags) : (s.setAF q).schedule = s.schedule := rfl
@[simp] theorem setAF_stepReturn (s : State) (q : Byte × Flags) : (s.setAF q).stepReturn = s.stepReturn := rfl
@[simp] theorem setAF_freeCount (s : State) (q : Byte × Flags) : (s.setAF q).freeCount = s.freeCount := rfl

/-! ### `setSp` -/
@[simp] theorem setSp_main (s : State) (v : Word) : (s.setSp v).main = s.main := rfl
@[simp] theorem setSp_shadow (s : State) (v : Word) : (s.setSp v).shadow = s.shadow := rfl
@[simp] theorem setSp_ix (s : State) (v : Word) : (s.setSp v).ix = s.ix := rfl
@[simp] theorem setSp_iy (s : State) (v : Word) : (s.setSp v).iy = s.iy := rfl
@[simp] theorem setSp_sp (s : State) (v : Word) : (s.setSp v).sp = v := rfl
@[simp] theorem setSp_pc (s : State) (v : Word) : (s.setSp v).pc = s.pc := rfl
@[simp] theorem setSp_i (s : State) (v : Word) : (s.setSp v).i = s.i := rfl
@[simp] theorem setSp_r (s : State) (v : Word) : (s.setSp v).r = s.r := rfl
@[simp] theorem setSp_iff1 (s : State) (v : Word) : (s.setSp v).iff1 = s.iff1 := rfl
@[simp] theorem setSp_iff2 (s : State) (v : Word) : (s.setSp v).iff2 = s.iff2 := rfl
@[simp] theorem setSp_im (s : State) (v : Word) : (s.setSp v).im = s.im := rfl
@[simp] theorem setSp_halted (s : State) (v : Word) : (s.setSp v).halted = s.halted := rfl
@[simp] theorem setSp_pendingDi (s : State) (v : Word) : (s.setSp v).pendingDi = s.pendingDi := rfl
@[simp] theorem setSp_pendingEi (s : State) (v : Word) : (s.setSp v).pendingEi = s.pendingEi := rfl
@[simp] theorem setSp_cyc (s : State) (v : Word) : (s.setSp v).cyc = s.cyc := rfl
@[simp] theorem setSp_mem (s : State) (v : Word) : (s.setSp v).mem = s.mem := rfl
@[simp] theorem setSp_params (s : State) (v : Word) : (s.setSp v).params = s.params := rfl
@[simp] theorem setSp_bus (s : State) (v : Word) : (s.setSp v).bus = s.bus := rfl
@[simp] theorem setSp_hostAnswers (s : State) (v : Word) : (s.setSp v).hostAnswers = s.hostAnswers := rfl
@[simp] theorem setSp_schedule (s : State) (v : Word) : (s.setSp v).schedule = s.schedule := rfl
@[simp] theorem setSp_stepReturn (s : State) (v : Word) : (s.setSp v).stepReturn = s.stepReturn := rfl
@[simp] theorem setSp_freeCount (s : State) (v : Word) : (s.setSp v).freeCount = s.freeCount := rfl

/-! ### `setPc` -/
@[simp] theorem setPc_main (s : State) (v : Word) : (s.setPc v).main = s.main := rfl
@[simp] theorem setPc_shadow (s : State) (v : Word) : (s.setPc v).shadow = s.shadow := rfl
@[simp] theorem setPc_ix (s : State) (v : Word) : (s.setPc v).ix = s.ix := rfl
@[simp] theorem setPc_iy (s : State) (v : Word) : (s.setPc v).iy = s.iy := rfl
@[simp] theorem setPc_sp (s : State) (v : Word) : (s.setPc v).sp = s.sp := rfl
@[simp] theorem setPc_pc (s : State) (v : Word) : (s.setPc v).pc = v := rfl
@[simp] theorem setPc_i (s : State) (v : Word) : (s.setPc v).i = s.i := rfl
@[simp] theorem setPc_r (s : State) (v : Word) : (s.setPc v).r = s.r := rfl
@[simp] theorem setPc_iff1 (s : State) (v : Word) : (s.setPc v).iff1 = s.iff1 := rfl
@[simp] theorem setPc_iff2 (s : State) (v : Word) : (s.setPc v).iff2 = s.iff2 := rfl
@[simp] theorem setPc_im (s : State) (v : Word) : (s.setPc v).im = s.im := rfl
@[simp] theorem setPc_halted (s : State) (v : Word) : (s.setPc v).halted = s.halted := rfl
@[simp] theorem setPc_pendingDi (s : State) (v : Word) : (s.setPc v).pendingDi = s.pendingDi := rfl
@[simp] theorem setPc_pendingEi (s : State) (v : Word) : (s.setPc v).pendingEi = s.pendingEi := rfl
@[simp] theorem setPc_cyc (s : State) (v : Word) : (s.setPc v).cyc = s.cyc := rfl
@[simp] theorem setPc_mem (s : State) (v : Word) : (s.setPc v).mem = s.mem := rfl
@[simp] theorem setPc_params (s : State) (v : Word) : (s.setPc v).params = s.params := rfl
@[simp] theorem setPc_bus (s : State) (v : Word) : (s.setPc v).bus = s.bus := rfl
@[simp] theorem setPc_hostAnswers (s : State) (v : Word) : (s.setPc v).hostAnswers = s.hostAnswers := rfl
@[simp] theorem setPc_schedule (s : State) (v : Word) : (s.setPc v).schedule = s.schedule := rfl
@[simp] theorem setPc_stepReturn (s : State) (v : Word) : (s.setPc v).stepReturn = s.stepReturn := rfl
@[simp] theorem setPc_freeCount (s : State) (v : Word) : (s.setPc v).freeCount = s.freeCount := rfl

/-! ### `setI` -/
@[simp] theorem setI_main (s : State) (v : Byte) : (s.setI v).main = s.main := rfl
@[simp] theorem setI_shadow (s : State) (v : Byte) : (s.setI v).shadow = s.shadow := rfl
@[simp] theorem setI_ix (s : State) (v : Byte) : (s.setI v).ix = s.ix := rfl
@[simp] theorem setI_iy (s : State) (v : Byte) : (s.setI v).iy = s.iy := rfl
@[simp] theorem setI_sp (s : State) (v : Byte) : (s.setI v).sp = s.sp := rfl
@[simp] theorem setI_pc (s : State) (v : Byte) : (s.setI v).pc = s.pc := rfl
@[simp] theorem setI_i (s : State) (v : Byte) : (s.setI v).i = v := rfl
@[simp] theorem setI_r (s : State) (v : Byte) : (s.setI v).r = s.r := rfl
@[simp] theorem setI_iff1 (s : State) (v : Byte) : (s.setI v).iff1 = s.iff1 := rfl
@[simp] theorem setI_iff2 (s : State) (v : Byte) : (s.setI v).iff2 = s.iff2 := rfl
@[simp] theorem setI_im (s : State) (v : Byte) : (s.setI v).im = s.im := rfl
@[simp] theorem setI_halted (s : State) (v : Byte) : (s.setI v).halted = s.halted := rfl
@[simp] theorem setI_pendingDi (s : State) (v : Byte) : (s.setI v).pendingDi = s.pendingDi := rfl
@[simp] theorem setI_pendingEi (s : State) (v : Byte) : (s.setI v).pendingEi = s.pendingEi := rfl
@[simp] theorem setI_cyc (s : State) (v : Byte) : (s.setI v).cyc = s.cyc := rfl
@[simp] theorem setI_mem (s : State) (v : Byte) : (s.setI v).mem = s.mem := rfl
@[simp] theorem setI_params (s : State) (v : Byte) : (s.setI v).params = s.params := rfl
@[simp] theorem setI_bus (s : State) (v : Byte) : (s.setI v).bus = s.bus := rfl
@[simp] theorem setI_hostAnswers (s : State) (v : Byte) : (s.setI v).hostAnswers = s.hostAnswers := rfl
@[simp] theorem setI_schedule (s : State) (v : Byte) : (s.setI v).schedule = s.schedule := rfl
@[simp] theorem setI_stepReturn (s : State) (v : Byte) : (s.setI v).stepReturn = s.stepReturn := rfl
@[simp] theorem setI_freeCount (s : State) (v : Byte) : (s.setI v).freeCount = s.freeCount := rfl

/-! ### `setR` -/
@[simp] theorem setR_main (s : State) (v : Byte) : (s.setR v).main = s.main := rfl
@[simp] theorem setR_shadow (s : State) (v : Byte) : (s.setR v).shadow = s.shadow := rfl
@[simp] theorem setR_ix (s : State) (v : Byte) : (s.setR v).ix = s.ix := rfl
@[simp] theorem setR_iy (s : State) (v : Byte) : (s.setR v).iy = s.iy := rfl
@[simp] theorem setR_sp (s : State) (v : Byte) : (s.setR v).sp = s.sp := rfl
@[simp] theorem setR_pc (s : State) (v : Byte) : (s.setR v).pc = s.pc := rfl
@[simp] theorem setR_i (s : State) (v : Byte) : (s.setR v).i = s.i := rfl
@[simp] theorem setR_r (s : State) (v : Byte) : (s.setR v).r = v := rfl
@[simp] theorem setR_iff1 (s : State) (v : Byte) : (s.setR v).iff1 = s.iff1 := rfl
@[simp] theorem setR_iff2 (s : State) (v : Byte) : (s.setR v).iff2 = s.iff2 := rfl
@[simp] theorem setR_im (s : State) (v : Byte) : (s.setR v).im = s.im := rfl
@[simp] theorem setR_halted (s : State) (v : Byte) : (s.setR v).halted = s.halted := rfl
@[simp] theorem setR_pendingDi (s : State) (v : Byte) : (s.setR v).pendingDi = s.pendingDi := rfl
@[simp] theorem setR_pendingEi (s : State) (v : Byte) : (s.setR v).pendingEi = s.pendingEi := rfl
@[simp] theorem setR_cyc (s : State) (v : Byte) : (s.setR v).cyc = s.cyc := rfl
@[simp] theorem setR_mem (s : State) (v : Byte) : (s.setR v).mem = s.mem := rfl
@[simp] theorem setR_params (s : State) (v : Byte) : (s.setR v).params = s.params := rfl
@[simp] theorem setR_bus (s : State) (v : Byte) : (s.setR v).bus = s.bus := rfl
@[simp] theorem setR_hostAnswers (s : State) (v : Byte) : (s.setR v).hostAnswers = s.hostAnswers := rfl
@[simp] theorem setR_schedule (s : State) (v : Byte) : (s.setR v).schedule = s.schedule := rfl
@[simp] theorem setR_stepReturn (s : State) (v : Byte) : (s.setR v).stepReturn = s.stepReturn := rfl
@[simp] theorem setR_freeCount (s : State) (v : Byte) : (s.setR v).freeCount = s.freeCount := rfl

/-! ### `setIm` -/
@[simp] theorem setIm_main (s : State) (m : IntMode) : (s.setIm m).main = s.main := rfl
@[simp] theorem setIm_shadow (s : State) (m : IntMode) : (s.setIm m).shadow = s.shadow := rfl
@[simp] theorem setIm_ix (s : State) (m : IntMode) : (s.setIm m).ix = s.ix := rfl
@[simp] theorem setIm_iy (s : State) (m : IntMode) : (s.setIm m).iy = s.iy := rfl
@[simp] theorem setIm_sp (s : State) (m : IntMode) : (s.setIm m).sp = s.sp := rfl
@[simp] theorem setIm_pc (s : State) (m : IntMode) : (s.setIm m).pc = s.pc := rfl
@[simp] theorem setIm_i (s : State) (m : IntMode) : (s.setIm m).i = s.i := rfl
@[simp] theorem setIm_r (s : State) (m : IntMode) : (s.setIm m).r = s.r := rfl
@[simp] theorem setIm_iff1 (s : State) (m : IntMode) : (s.setIm m).iff1 = s.iff1 := rfl
@[simp] theorem setIm_iff2 (s : State) (m : IntMode) : (s.setIm m).iff2 = s.iff2 := rfl
@[simp] theorem setIm_im (s : State) (m : IntMode) : (s.setIm m).im = m := rfl
@[simp] theorem setIm_halted (s : State) (m : IntMode) : (s.setIm m).halted = s.halted := rfl
@[simp] theorem setIm_pendingDi (s : State) (m : IntMode) : (s.setIm m).pendingDi = s.pendingDi := rfl
@[simp] theorem setIm_pendingEi (s : State) (m : IntMode) : (s.setIm m).pendingEi = s.pendingEi := rfl
@[simp] theorem setIm_cyc (s : State) (m : IntMode) : (s.setIm m).cyc = s.cyc := rfl
@[simp] theorem setIm_mem (s : State) (m : IntMode) : (s.setIm m).mem = s.mem := rfl
@[simp] theorem setIm_params (s : State) (m : IntMode) : (s.setIm m).params = s.params := rfl
@[simp] theorem setIm_bus (s : State) (m : IntMode) : (s.setIm m).bus = s.bus := rfl
@[simp] theorem setIm_hostAnswers (s : State) (m : IntMode) : (s.setIm m).hostAnswers = s.hostAnswers := rfl
@[simp] theorem setIm_schedule (s : State) (m : IntMode) : (s.setIm m).schedule = s.schedule := rfl
@[simp] theorem setIm_stepReturn (s : State) (m : IntMode) : (s.setIm m).stepReturn = s.stepReturn := rfl
@[simp] theorem setIm_freeCount (s : State) (m : IntMode) : (s.setIm m).freeCount = s.freeCount := rfl

/-! ### `setHalted` -/
@[simp] theorem setHalted_main (s : State) : s.setHalted.main = s.main := rfl
@[simp] theorem setHalted_shadow (s : State) : s.setHalted.shadow = s.shadow := rfl
@[simp] theorem setHalted_ix (s : State) : s.setHalted.ix = s.ix := rfl
@[simp] theorem setHalted_iy (s : State) : s.setHalted.iy = s.iy := rfl
@[simp] theorem setHalted_sp (s : State) : s.setHalted.sp = s.sp := rfl
@[simp] theorem setHalted_pc (s : State) : s.setHalted.pc = s.pc := rfl
@[simp] theorem setHalted_i (s : State) : s.setHalted.i = s.i := rfl
@[simp] theorem setHalted_r (s : State) : s.setHalted.r = s.r := rfl
@[simp] theorem setHalted_iff1 (s : State) : s.setHalted.iff1 = s.iff1 := rfl
@[simp] theorem setHalted_iff2 (s : State) : s.setHalted.iff2 = s.iff2 := rfl
@[simp] theorem setHalted_im (s : State) : s.setHalted.im = s.im := rfl
@[simp] theorem setHalted_halted (s : State) : s.setHalted.halted = true := rfl
@[simp] theorem setHalted_pendingDi (s : State) : s.setHalted.pendingDi = s.pendingDi := rfl
@[simp] theorem setHalted_pendingEi (s : State) : s.setHalted.pendingEi = s.pendingEi := rfl
@[simp] theorem setHalted_cyc (s : State) : s.setHalted.cyc = s.cyc := rfl
@[simp] theorem setHalted_mem (s : State) : s.setHalted.mem = s.mem := rfl
@[simp] theorem setHalted_params (s : State) : s.setHalted.params = s.params := rfl
@[simp] theorem setHalted_bus (s : State) : s.setHalted.bus = s.bus := rfl
@[simp] theorem setHalted_hostAnswers (s : State) : s.setHalted.hostAnswers = s.hostAnswers := rfl
@[simp] theorem setHalted_schedule (s : State) : s.setHalted.schedule = s.schedule := rfl
@[simp] theorem setHalted_stepReturn (s : State) : s.setHalted.stepReturn = s.stepReturn := rfl
@[simp] theorem setHalted_freeCount (s : State) : s.setHalted.freeCount = s.freeCount := rfl

/-! ### `setPendingDi` -/
@[simp] theorem setPendingDi_main (s : State) : s.setPendingDi.main = s.main := rfl
@[simp] theorem setPendingDi_shadow (s : State) : s.setPendingDi.shadow = s.shadow := rfl
@[simp] theorem setPendingDi_ix (s : State) : s.setPendingDi.ix = s.ix := rfl
@[simp] theorem setPendingDi_iy (s : State) : s.setPendingDi.iy = s.iy := rfl
@[simp] theorem setPendingDi_sp (s : State) : s.setPendingDi.sp = s.sp := rfl
@[simp] theorem setPendingDi_pc (s : State) : s.setPendingDi.pc = s.pc := rfl
@[simp] theorem setPendingDi_i (s : State) : s.setPendingDi.i = s.i := rfl
@[simp] theorem setPendingDi_r (s : State) : s.setPendingDi.r = s.r := rfl
@[simp] theorem setPendingDi_iff1 (s : State) : s.setPendingDi.iff1 = s.iff1 := rfl
@[simp] theorem setPendingDi_iff2 (s : State) : s.setPendingDi.iff2 = s.iff2 := rfl
@[simp] theorem setPendingDi_im (s : State) : s.setPendingDi.im = s.im := rfl
@[simp] theorem setPendingDi_halted (s : State) : s.setPendingDi.halted = s.halted := rfl
@[simp] theorem setPendingDi_pendingDi (s : State) : s.setPendingDi.pendingDi = true := rfl
@[simp] theorem setPendingDi_pendingEi (s : State) : s.setPendingDi.pendingEi = s.pendingEi := rfl
@[simp] theorem setPendingDi_cyc (s : State) : s.setPendingDi.cyc = s.cyc := rfl
@[simp] theorem setPendingDi_mem (s : State) : s.setPendingDi.mem = s.mem := rfl
@[simp] theorem setPendingDi_params (s : State) : s.setPendingDi.params = s.params := rfl
@[simp] theorem setPendingDi_bus (s : State) : s.setPendingDi.bus = s.bus := rfl
@[simp] theorem setPendingDi_hostAnswers (s : State) : s.setPendingDi.hostAnswers = s.hostAnswers := rfl
@[simp] theorem setPendingDi_schedule (s : State) : s.setPendingDi.schedule = s.schedule := rfl
@[simp] theorem setPendingDi_stepReturn (s : State) : s.setPendingDi.stepReturn = s.stepReturn := rfl
@[simp] theorem setPendingDi_freeCount (s : State) : s.setPendingDi.freeCount = s.freeCount := rfl

/-! ### `setPendingEi` -/
@[simp] theorem setPendingEi_main (s : State) : s.setPendingEi.main = s.main := rfl
@[simp] theorem setPendingEi_shadow (s : State) : s.setPendingEi.shadow = s.shadow := rfl
@[simp] theorem setPendingEi_ix (s : State) : s.setPendingEi.ix = s.ix := rfl
@[simp] theorem setPendingEi_iy (s : State) : s.setPendingEi.iy = s.iy := rfl
@[simp] theorem setPendingEi_sp (s : State) : s.setPendingEi.sp = s.sp := rfl
@[simp] theorem setPendingEi_pc (s : State) : s.setPendingEi.pc = s.pc := rfl
@[simp] theorem setPendingEi_i (s : State) : s.setPendingEi.i = s.i := rfl
@[simp] theorem setPendingEi_r (s : State) : s.setPendingEi.r = s.r := rfl
@[simp] theorem setPendingEi_iff1 (s : State) : s.setPendingEi.iff1 = s.iff1 := rfl
@[simp] theorem setPendingEi_iff2 (s : State) : s.setPendingEi.iff2 = s.iff2 := rfl
@[simp] theorem setPendingEi_im (s : State) : s.setPendingEi.im = s.im := rfl
@[simp] theorem setPendingEi_halted (s : State) : s.setPendingEi.halted = s.halted := rfl
@[simp] theorem setPendingEi_pendingDi (s : State) : s.setPendingEi.pendingDi = s.pendingDi := rfl
@[simp] theorem setPendingEi_pendingEi (s : State) : s.setPendingEi.pendingEi = true := rfl
@[simp] theorem setPendingEi_cyc (s : State) : s.setPendingEi.cyc = s.cyc := rfl
@[simp] theorem setPendingEi_mem (s : State) : s.setPendingEi.mem = s.mem := rfl
@[simp] theorem setPendingEi_params (s : State) : s.setPendingEi.params = s.params := rfl
@[simp] theorem setPendingEi_bus (s : State) : s.setPendingEi.bus = s.bus := rfl
@[simp] theorem setPendingEi_hostAnswers (s : State) : s.setPendingEi.hostAnswers = s.hostAnswers := rfl
@[simp] theorem setPendingEi_schedule (s : State) : s.setPendingEi.schedule = s.schedule := rfl
@[simp] theorem setPendingEi_stepReturn (s : State) : s.setPendingEi.stepReturn = s.stepReturn := rfl
@[simp] theorem setPendingEi_freeCount (s : State) : s.setPendingEi.freeCount = s.freeCount := rfl

/-! ### `addCyc` -/
@[simp] theorem addCyc_main (s : State) (n : Nat) : (s.addCyc n).main = s.main := rfl
@[simp] theorem addCyc_shadow (s : State) (n : Nat) : (s.addCyc n).shadow = s.shadow := rfl
@[simp] theorem addCyc_ix (s : State) (n : Nat) : (s.addCyc n).ix = s.ix := rfl
@[simp] theorem addCyc_iy (s : State) (n : Nat) : (s.addCyc n).iy = s.iy := rfl
@[simp] theorem addCyc_sp (s : State) (n : Nat) : (s.addCyc n).sp = s.sp := rfl
@[simp] theorem addCyc_pc (s : State) (n : Nat) : (s.addCyc n).pc = s.pc := rfl
@[simp] theorem addCyc_i (s : State) (n : Nat) : (s.addCyc n).i = s.i := rfl
@[simp] theorem addCyc_r (s : State) (n : Nat) : (s.addCyc n).r = s.r := rfl
@[simp] theorem addCyc_iff1 (s : State) (n : Nat) : (s.addCyc n).iff1 = s.iff1 := rfl
@[simp] theorem addCyc_iff2 (s : State) (n : Nat) : (s.addCyc n).iff2 = s.iff2 := rfl
@[simp] theorem addCyc_im (s : State) (n : Nat) : (s.addCyc n).im = s.im := rfl
@[simp] theorem addCyc_halted (s : State) (n : Nat) : (s.addCyc n).halted = s.halted := rfl
@[simp] theorem addCyc_pendingDi (s : State) (n : Nat) : (s.addCyc n).pendingDi = s.pendingDi := rfl
@[simp] theorem addCyc_pendingEi (s : State) (n : Nat) : (s.addCyc n).pendingEi = s.pendingEi := rfl
@[simp] theorem addCyc_cyc (s : State) (n : Nat) : (s.addCyc n).cyc = s.cyc + n := rfl
@[simp] theorem addCyc_mem (s : State) (n : Nat) : (s.addCyc n).mem = s.mem := rfl
@[simp] theorem addCyc_params (s : State) (n : Nat) : (s.addCyc n).params = s.params := rfl
@[simp] theorem addCyc_bus (s : State) (n : Nat) : (s.addCyc n).bus = s.bus := rfl
@[simp] theorem addCyc_hostAnswers (s : State) (n : Nat) : (s.addCyc n).hostAnswers = s.hostAnswers := rfl
@[simp] theorem addCyc_schedule (s : State) (n : Nat) : (s.addCyc n).schedule = s.schedule := rfl
@[simp] theorem addCyc_stepReturn (s : State) (n : Nat) : (s.addCyc n).stepReturn = s.stepReturn := rfl
@[simp] theorem addCyc_freeCount (s : State) (n : Nat) : (s.addCyc n).freeCount = s.freeCount := rfl

/-! ### `memWrite` -/
@[simp] theorem memWrite_main (s : State) (a : Word) (v : Byte) : (s.memWrite a v).main = s.main := rfl
@[simp] theorem memWrite_shadow (s : State) (a : Word) (v : Byte) : (s.memWrite a v).shadow = s.shadow := rfl
@[simp] theorem memWrite_ix (s : State) (a : Word) (v : Byte) : (s.memWrite a v).ix = s.ix := rfl
@[simp] theorem memWrite_iy (s : State) (a : Word) (v : Byte) : (s.memWrite a v).iy = s.iy := rfl
@[simp] theorem memWrite_sp (s : State) (a : Word) (v : Byte) : (s.memWrite a v).sp = s.sp := rfl
@[simp] theorem memWrite_pc (s : State) (a : Word) (v : Byte) : (s.memWrite a v).pc = s.pc := rfl
@[simp] theorem memWrite_i (s : State) (a : Word) (v : Byte) : (s.memWrite a v).i = s.i := rfl
@[simp] theorem memWrite_r (s : State) (a : Word) (v : Byte) : (s.memWrite a v).r = s.r := rfl
@[simp] theorem memWrite_iff1 (s : State) (a : Word) (v : Byte) : (s.memWrite a v).iff1 = s.iff1 := rfl
@[simp] theorem memWrite_iff2 (s : State) (a : Word) (v : Byte) : (s.memWrite a v).iff2 = s.iff2 := rfl
@[simp] theorem memWrite_im (s : State) (a : Word) (v : Byte) : (s.memWrite a v).im = s.im := rfl
@[simp] theorem memWrite_halted (s : State) (a : Word) (v : Byte) : (s.memWrite a v).halted = s.halted := rfl
@[simp] theorem memWrite_pendingDi (s : State) (a : Word) (v : Byte) : (s.memWrite a v).pendingDi = s.pendingDi := rfl
@[simp] theorem memWrite_pendingEi (s : State) (a : Word) (v : Byte) : (s.memWrite a v).pendingEi = s.pendingEi := rfl
@[simp] theorem memWrite_cyc (s : State) (a : Word) (v : Byte) : (s.memWrite a v).cyc = s.cyc := rfl
@[simp] theorem memWrite_mem (s : State) (a : Word) (v : Byte) : (s.memWrite a v).mem = storeCell s.params s.mem a v := rfl
@[simp] theorem memWrite_params (s : State) (a : Word) (v : Byte) : (s.memWrite a v).params = s.params := rfl
@[simp] theorem memWrite_bus (s : State) (a : Word) (v : Byte) : (s.memWrite a v).bus = .memWrite a v :: s.bus := rfl
@[simp] theorem memWrite_hostAnswers (s : State) (a : Word) (v : Byte) : (s.memWrite a v).hostAnswers = s.hostAnswers := rfl
@[simp] theorem memWrite_schedule (s : State) (a : Word) (v : Byte) : (s.memWrite a v).schedule = s.schedule := rfl
@[simp] theorem memWrite_stepReturn (s : State) (a : Word) (v : Byte) : (s.memWrite a v).stepReturn = s.stepReturn := rfl
@[simp] theorem memWrite_freeCount (s : State) (a : Word) (v : Byte) : (s.memWrite a v).freeCount = s.freeCount := rfl

/-! ### `ioWrite` -/
@[simp] theorem ioWrite_main (s : State) (a : Word) (v : Byte) : (s.ioWrite a v).main = s.main := rfl
@[simp] theorem ioWrite_shadow (s : State) (a : Word) (v : Byte) : (s.ioWrite a v).shadow = s.shadow := rfl
@[simp] theorem ioWrite_ix (s : State) (a : Word) (v : Byte) : (s.ioWrite a v).ix = s.ix := rfl
@[simp] theorem ioWrite_iy (s : State) (a : Word) (v : Byte) : (s.ioWrite a v).iy = s.iy := rfl
@[simp] theorem ioWrite_sp (s : State) (a : Word) (v : Byte) : (s.ioWrite a v).sp = s.sp := rfl
@[simp] theorem ioWrite_pc (s : State) (a : Word) (v : Byte) : (s.ioWrite a v).pc = s.pc := rfl
@[simp] theorem ioWrite_i (s : State) (a : Word) (v : Byte) : (s.ioWrite a v).i = s.i := rfl
@[simp] theorem ioWrite_r (s : State) (a : Word) (v : Byte) : (s.ioWrite a v).r = s.r := rfl
@[simp] theorem ioWrite_iff1 (s : State) (a : Word) (v : Byte) : (s.ioWrite a v).iff1 = s.iff1 := rfl
@[simp] theorem ioWrite_iff2 (s : State) (a : Word) (v : Byte) : (s.ioWrite a v).iff2 = s.iff2 := rfl
@[simp] theorem ioWrite_im (s : State) (a : Word) (v : Byte) : (s.ioWrite a v).im = s.im := rfl
@[simp] theorem ioWrite_halted (s : State) (a : Word) (v : Byte) : (s.ioWrite a v).halted = s.halted := rfl
@[simp] theorem ioWrite_pendingDi (s : State) (a : Word) (v : Byte) : (s.ioWrite a v).pendingDi = s.pendingDi := rfl
@[simp] theorem ioWrite_pendingEi (s : State) (a : Word) (v : Byte) : (s.ioWrite a v).pendingEi = s.pendingEi := rfl
@[simp] theorem ioWrite_cyc (s : State) (a : Word) (v : Byte) : (s.ioWrite a v).cyc = s.cyc := rfl
@[simp] theorem ioWrite_mem (s : State) (a : Word) (v : Byte) : (s.ioWrite a v).mem = s.mem := rfl
@[simp] theorem ioWrite_params (s : State) (a : Word) (v : Byte) : (s.ioWrite a v).params = s.params := rfl
@[simp] theorem ioWrite_bus (s : State) (a : Word) (v : Byte) : (s.ioWrite a v).bus = .ioWrite a v :: s.bus := rfl
@[simp] theorem ioWrite_hostAnswers (s : State) (a : Word) (v : Byte) : (s.ioWrite a v).hostAnswers = s.hostAnswers := rfl
@[simp] theorem ioWrite_schedule (s : State) (a : Word) (v : Byte) : (s.ioWrite a v).schedule = s.schedule := rfl
@[simp] theorem ioWrite_stepReturn (s : State) (a : Word) (v : Byte) : (s.ioWrite a v).stepReturn = s.stepReturn := rfl
@[simp] theorem ioWrite_freeCount (s : State) (a : Word) (v : Byte) : (s.ioWrite a v).freeCount = s.freeCount := rfl

/-! ### The pairs, case by case -/

@[simp] theorem setPair_bc_main (s : State) (v : Word) :
    (s.setPair .bc v).main = { s.main with b := wordHi v, c := wordLo v } := rfl
@[simp] theorem setPair_de_main (s : State) (v : Word) :
    (s.setPair .de v).main = { s.main with d := wordHi v, e := wordLo v } := rfl
@[simp] theorem setPair_hl_main (s : State) (v : Word) :
    (s.setPair .hl v).main = { s.main with h := wordHi v, l := wordLo v } := rfl
@[simp] theorem setPair_sp_main (s : State) (v : Word) : (s.setPair .sp v).main = s.main := rfl
@[simp] theorem setPair_bc_sp (s : State) (v : Word) : (s.setPair .bc v).sp = s.sp := rfl
@[simp] theorem setPair_de_sp (s : State) (v : Word) : (s.setPair .de v).sp = s.sp := rfl
@[simp] theorem setPair_hl_sp (s : State) (v : Word) : (s.setPair .hl v).sp = s.sp := rfl
@[simp] theorem setPair_sp_sp (s : State) (v : Word) : (s.setPair .sp v).sp = v := rfl
@[simp] theorem setIdx_ix_ix (s : State) (v : Word) : (s.setIdx .ix v).ix = v := rfl
@[simp] theorem setIdx_ix_iy (s : State) (v : Word) : (s.setIdx .ix v).iy = s.iy := rfl
@[simp] theorem setIdx_iy_iy (s : State) (v : Word) : (s.setIdx .iy v).iy = v := rfl
@[simp] theorem setIdx_iy_ix (s : State) (v : Word) : (s.setIdx .iy v).ix = s.ix := rfl

/-! ### Reads: what they answer, and that they change nothing but the bus and the host's script -/

@[simp] theorem memRead_value (s : State) (a : Word) : (s.memRead a).1 = s.peek a := rfl
@[simp] theorem memRead_state (s : State) (a : Word) :
    (s.memRead a).2 = { s with bus := .memRead a (s.peek a) :: s.bus, hostAnswers := s.answersAfter a } := rfl
@[simp] theorem ioRead_value (s : State) (a : Word) : (s.ioRead a).1 = s.ioAnswer a := rfl
@[simp] theorem ioRead_state (s : State) (a : Word) :
    (s.ioRead a).2 = { s with bus := .ioRead a (s.ioAnswer a) :: s.bus, hostAnswers := s.hostAnswers.tail } := rfl

end Sys2Proof.Machine
end

