-- ==== Sys2Proof/Laws/Ops.lean ====
section
/-! SUPPORT. One equation per shared operation: everything it does, as one record update, so that no later proof unfolds it. -/

namespace Sys2Proof.Machine

/-! ### The refresh counter -/

theorem bumpR_eq (s : State) (n : Nat) : s.bumpR n = { s with r := bumpByte^[n] s.r } := by
  induction n generalizing s with
  | zero => rfl
  | succ n ih => simp only [State.bumpR, ih, Function.iterate_succ_apply]

theorem bumpByte_low (v : Byte) : (bumpByte v).toNat % 128 = (v.toNat + 1) % 128 := by
  revert v; decide

theorem bumpByte_high (v : Byte) : (bumpByte v).getLsbD 7 = v.getLsbD 7 := by
  revert v; decide

/-- `n` increments count modulo 128 (10_state.md R32). -/
theorem bumpByte_iterate_low (n : Nat) (v : Byte) : (bumpByte^[n] v).toNat % 128 = (v.toNat + n) % 128 := by
  induction n generalizing v with
  | zero => rfl
  | succ n ih =>
    have := bumpByte_low v
    rw [Function.iterate_succ_apply, ih]
    omega

/-- Increments keep bit 7 (10_state.md R32). -/
theorem bumpByte_iterate_high (n : Nat) (v : Byte) : (bumpByte^[n] v).getLsbD 7 = v.getLsbD 7 := by
  induction n generalizing v with
  | zero => rfl
  | succ n ih => rw [Function.iterate_succ_apply, ih, bumpByte_high]

/-! ### The stack and 16-bit accesses -/

theorem push16_eq (s : State) (v : Word) :
    s.push16 v =
      { s with
          sp := s.sp - 2
          mem := storeCell s.params (storeCell s.params s.mem (s.sp - 1) (wordHi v)) (s.sp - 2) (wordLo v)
          bus := .memWrite (s.sp - 2) (wordLo v) :: .memWrite (s.sp - 1) (wordHi v) :: s.bus } := by
  simp [State.push16, State.memWrite, State.setSp, BitVec.sub_sub]

/-- The prepared answers that two reads, at `a` and at `a + 1`, leave. -/
def answersAfter16 (s : State) (a : Word) : List Byte := (s.memRead a).2.answersAfter (a + 1)

theorem pop16_eq (s : State) :
    s.pop16 =
      (s.word s.sp,
        { s with
            sp := s.sp + 2
            bus := .memRead (s.sp + 1) (s.peekNext s.sp) :: .memRead s.sp (s.peek s.sp) :: s.bus
            hostAnswers := answersAfter16 s s.sp }) := by
  have : s.sp + 1 + 1 = s.sp + 2 := by simp [BitVec.add_assoc]
  rw [← this]
  rfl

theorem memRead16_eq (s : State) (a : Word) :
    s.memRead16 a =
      (s.word a,
        { s with
            bus := .memRead (a + 1) (s.peekNext a) :: .memRead a (s.peek a) :: s.bus
            hostAnswers := answersAfter16 s a }) := rfl

theorem memWrite16_eq (s : State) (a v : Word) :
    s.memWrite16 a v =
      { s with
          mem := storeCell s.params (storeCell s.params s.mem a (wordLo v)) (a + 1) (wordHi v)
          bus := .memWrite (a + 1) (wordHi v) :: .memWrite a (wordLo v) :: s.bus } := rfl

theorem exchangeTop_eq (v : Word) (s : State) :
    exchangeTop v s =
      (s.word s.sp,
        { s with
            mem := storeCell s.params (storeCell s.params s.mem (s.sp + 1) (wordHi v)) s.sp (wordLo v)
            bus := .memWrite s.sp (wordLo v) :: .memWrite (s.sp + 1) (wordHi v) ::
              .memRead (s.sp + 1) (s.peekNext s.sp) :: .memRead s.sp (s.peek s.sp) :: s.bus
            hostAnswers := answersAfter16 s s.sp }) := rfl

/-! ### The fetch -/

/-- The prepared answers that `n` fetches from `a` on leave. -/
def answersAfterFetch (s : State) (a : Word) : Nat → List Byte
  | 0 => s.hostAnswers
  | n + 1 => answersAfterFetch (s.memRead a).2 (a + 1) n

theorem fetchBytes_eq (s : State) (a : Word) (n : Nat) :
    s.fetchBytes a n =
      { s with bus := (fetchOps s a n).reverse ++ s.bus, hostAnswers := answersAfterFetch s a n } := by
  induction n generalizing s a with
  | zero => rfl
  | succ n ih =>
    simp only [State.fetchBytes, ih, fetchOps, answersAfterFetch, List.reverse_cons, List.append_assoc]
    rfl

/-- They are what the reads among the operations leave of them. -/
theorem answersAfterFetch_eq (s : State) (a : Word) (n : Nat) :
    answersAfterFetch s a n = s.hostAnswers.drop (answersTaken s.params (fetchOps s a n)) := by
  induction n generalizing s a with
  | zero => rfl
  | succ n ih =>
    have h : (s.memRead a).2.params = s.params := rfl
    simp only [answersAfterFetch, ih, fetchOps, answersTaken, h]
    by_cases hd : s.params.kindAt a = .device
    · simp [State.memRead, State.answersAfter, State.isDevice, State.kindAt, hd, List.drop_tail]
    · simp [State.memRead, State.answersAfter, State.isDevice, State.kindAt, hd]

/-- What a list of bytes decodes to is what its first four bytes, zeros past its end, decode to. -/
theorem decode_ok {bs rest : List Byte} {i : Instr} (h : decode bs = .ok (i, rest)) :
    decodeBytes (bs.getD 0 0) (bs.getD 1 0) (bs.getD 2 0) (bs.getD 3 0) = i ∧ i.bytesRead ≤ bs.length ∧
      rest = bs.drop i.length := by
  unfold decode at h
  by_cases hl : (decodeBytes (bs.getD 0 0) (bs.getD 1 0) (bs.getD 2 0) (bs.getD 3 0)).bytesRead ≤ bs.length
  · simp only [hl, if_true, Except.ok.injEq, Prod.mk.injEq] at h
    obtain ⟨rfl, rfl⟩ := h
    exact ⟨rfl, hl, rfl⟩
  · simp only [hl, if_false, reduceCtorEq] at h

/-- The instruction at `PC` is what the four bytes there decode to. -/
theorem nextInstr_of_decode {s : State} {rest : List Byte} {i : Instr} (h : decode (s.bytesAt s.pc 4) = .ok (i, rest)) :
    s.nextInstr = i := by
  rw [← (decode_ok h).1]
  simp [State.nextInstr, State.fetchByte, State.fetchBytes, State.bytesAt, BitVec.add_assoc]

/-! ### How an instruction ends -/

@[simp] theorem retire_eq (len : Word) (s : State) : retire len s = .next (s.setPc (s.pc + len)) := rfl
@[simp] theorem jump_eq (target : Word) (s : State) : jump target s = .next (s.setPc target) := rfl

theorem call_eq (len target : Word) (s : State) :
    call len target s = .next ((s.push16 (s.pc + len)).setPc target) := rfl

theorem popPc_eq (s : State) : popPc s = .next (s.pop16.2.setPc s.pop16.1) := rfl

/-- A relative target in signed arithmetic (46_control.md R351). -/
theorem relTarget_eq (a : Word) (e : Byte) : relTarget a e = BitVec.ofInt 16 ((a.toNat : Int) + 2 + e.toInt) := by
  have : (2 : Word) = BitVec.ofInt 16 2 := rfl
  rw [relTarget, sext16_eq_ofInt, BitVec.ofInt_add, BitVec.ofInt_add, this]
  simp

/-- An effective address in signed arithmetic (49_index.md R462). -/
theorem indexed_eq (s : State) (x : Index) (d : Byte) :
    s.indexed x d = BitVec.ofInt 16 (((s.idx x).toNat : Int) + d.toInt) := by
  rw [State.indexed, sext16_eq_ofInt, BitVec.ofInt_add]
  simp

/-! ### The commit and the two ends of a step -/

@[simp] theorem commit_di (s : State) : s.commit true false = { s with iff1 := false, iff2 := false } := rfl
@[simp] theorem commit_ei (s : State) : s.commit false true = { s with iff1 := true, iff2 := true } := rfl
@[simp] theorem commit_none (s : State) : s.commit false false = s := rfl

/-- With both pending, both flip-flops take one free bit (40_fetch_decode.md R138). -/
theorem commit_both (s : State) :
    s.commit true true =
      { s with
          iff1 := Config.commitBit s.freeCount
          iff2 := Config.commitBit s.freeCount
          freeCount := s.freeCount + 1 } := rfl

/-- Everything `commit` keeps. -/
theorem commit_frame (s : State) (di ei : Bool) :
    s.commit di ei =
      { s with
          iff1 := (s.commit di ei).iff1
          iff2 := (s.commit di ei).iff2
          freeCount := (s.commit di ei).freeCount } := by
  cases di <;> cases ei <;> rfl

theorem finishStep_eq (s : State) (di ei : Bool) :
    s.finishStep di ei = { s.commit di ei with stepReturn := (s.commit di ei).cyc, cyc := 0 } := rfl

/-- A run of fetches depends on nothing but the host's side. -/
theorem fetch_of_eq {s t : State} (hm : t.mem = s.mem) (hp : t.params = s.params) (hb : t.bus = s.bus)
    (hh : t.hostAnswers = s.hostAnswers) (a : Word) (n : Nat) :
    fetchOps t a n = fetchOps s a n ∧ answersAfterFetch t a n = answersAfterFetch s a n := by
  induction n generalizing s t a with
  | zero => exact ⟨rfl, hh⟩
  | succ n ih =>
    have hpk := peek_of_eq hm hp hb hh a
    have h := ih (s := (s.memRead a).2) (t := (t.memRead a).2) hm hp (by simp only [State.memRead, hpk, hb])
      (by simp only [State.memRead, State.answersAfter, isDevice_of_params_eq hp, hh]) (a + 1)
    exact ⟨by simp only [fetchOps, hpk, h.1], h.2⟩

/-- All a fetch does (40_fetch_decode.md R130, R131, R139). -/
theorem fetched_eq (s : State) :
    s.fetched =
      { s with
          pendingDi := false
          pendingEi := false
          r := bumpByte^[opcodeBytes (s.fetchByte s.pc 0) (s.fetchByte s.pc 1)] s.r
          bus := (fetchOps s s.pc s.nextInstr.bytesRead).reverse ++ s.bus
          hostAnswers := answersAfterFetch s s.pc s.nextInstr.bytesRead
          cyc := s.cyc + stepCost s } := by
  simp only [State.fetched, bumpR_eq, fetchBytes_eq, State.addCyc, stepCost]
  congr 1
  · exact congrArg (List.reverse · ++ s.bus) (fetch_of_eq (by rfl) (by rfl) (by rfl) (by rfl) s.pc _).1
  · exact (fetch_of_eq (by rfl) (by rfl) (by rfl) (by rfl) s.pc _).2

/-! ### Acceptances -/

theorem acceptNmi_eq (s : State) :
    acceptNmi s =
      { s with
          r := bumpByte s.r
          halted := false
          iff2 := s.iff1
          iff1 := false
          sp := s.sp - 2
          pc := 0x0066
          mem := storeCell s.params (storeCell s.params s.mem (s.sp - 1) (wordHi s.pc)) (s.sp - 2) (wordLo s.pc)
          bus := .memWrite (s.sp - 2) (wordLo s.pc) :: .memWrite (s.sp - 1) (wordHi s.pc) :: s.bus
          cyc := s.cyc + 11 } := by
  simp only [acceptNmi, acceptBegin, enterHandler, bumpR_eq, push16_eq, Function.iterate_one, State.setPc, State.addCyc]

theorem acceptMaskable_eq (s : State) :
    acceptMaskable s = { s with r := bumpByte s.r, halted := false, iff1 := false, iff2 := false } := by
  simp only [acceptMaskable, acceptBegin, bumpR_eq, Function.iterate_one]

theorem enterMode1_eq (s : State) :
    enterMode1 s =
      { s with
          sp := s.sp - 2
          pc := 0x0038
          mem := storeCell s.params (storeCell s.params s.mem (s.sp - 1) (wordHi s.pc)) (s.sp - 2) (wordLo s.pc)
          bus := .memWrite (s.sp - 2) (wordLo s.pc) :: .memWrite (s.sp - 1) (wordHi s.pc) :: s.bus
          cyc := s.cyc + 13 } := by
  simp only [enterMode1, enterHandler, push16_eq, State.setPc, State.addCyc]

/-- The vector is read from the memory the push leaves (60_exceptions.md R548). -/
theorem enterMode2_eq (data : Byte) (s : State) :
    enterMode2 data s =
      let t := s.push16 s.pc
      let v := mkWord s.i data
      { t with
          pc := t.word v
          bus := .memRead (v + 1) (t.peekNext v) :: .memRead v (t.peek v) :: t.bus
          hostAnswers := answersAfter16 t v
          cyc := s.cyc + 19 } := by
  simp only [enterMode2, memRead16_eq, push16_eq, State.setPc, State.addCyc]

/-! ### Operand forms in memory -/

theorem loadReg_eq (r : Reg8) (ea : Word) (s : State) :
    loadReg r ea s =
      { s with
          main := s.main.set r (s.peek ea)
          bus := .memRead ea (s.peek ea) :: s.bus
          hostAnswers := s.answersAfter ea } := rfl

theorem aluMem_eq (op : AluOp) (ea : Word) (s : State) :
    aluMem op ea s =
      { aluA op (s.peek ea) s with bus := .memRead ea (s.peek ea) :: s.bus, hostAnswers := s.answersAfter ea } := by
  cases op <;> rfl

theorem updateMem_eq (k : Byte → Flags → Byte × Flags) (ea : Word) (s : State) :
    updateMem k ea s =
      { s with
          main := { s.main with f := (k (s.peek ea) s.flags).2.pack }
          mem := storeCell s.params s.mem ea (k (s.peek ea) s.flags).1
          bus := .memWrite ea (k (s.peek ea) s.flags).1 :: .memRead ea (s.peek ea) :: s.bus
          hostAnswers := s.answersAfter ea } := rfl

theorem bitTestMem_eq (n : Field3) (ea : Word) (s : State) :
    bitTestMem n ea s =
      { s with
          main := { s.main with f := (bitTest n (s.peek ea) s.flags).pack }
          bus := .memRead ea (s.peek ea) :: s.bus
          hostAnswers := s.answersAfter ea } := rfl

theorem modifyMem_eq (f : Byte → Byte) (ea : Word) (copy : Option Reg8) (s : State) :
    modifyMem f ea copy s =
      copyTo copy (f (s.peek ea))
        { s with
            mem := storeCell s.params s.mem ea (f (s.peek ea))
            bus := .memWrite ea (f (s.peek ea)) :: .memRead ea (s.peek ea) :: s.bus
            hostAnswers := s.answersAfter ea } := rfl

theorem shiftMem_eq (k : ShiftKind) (ea : Word) (copy : Option Reg8) (s : State) :
    shiftMem k ea copy s =
      let q := shift k (s.peek ea) s.flags.c
      copyTo copy q.1
        { s with
            main := { s.main with f := (shiftFlags q.1 q.2).pack }
            mem := storeCell s.params s.mem ea q.1
            bus := .memWrite ea q.1 :: .memRead ea (s.peek ea) :: s.bus
            hostAnswers := s.answersAfter ea } := rfl

@[simp] theorem copyTo_none (v : Byte) (s : State) : copyTo none v s = s := rfl
@[simp] theorem copyTo_some (r : Reg8) (v : Byte) (s : State) : copyTo (some r) v s = s.setReg r v := rfl

/-! ### Block bodies -/

theorem blockLoad_eq (delta : Word) (s : State) :
    (blockLoad delta s).main.de = s.main.de + delta ∧ (blockLoad delta s).main.hl = s.main.hl + delta ∧
      (blockLoad delta s).main.bc = s.main.bc - 1 ∧ (blockLoad delta s).main.a = s.main.a ∧
      (blockLoad delta s).mem = storeCell s.params s.mem s.main.de (s.peek s.main.hl) ∧
      (blockLoad delta s).bus = .memWrite s.main.de (s.peek s.main.hl) :: .memRead s.main.hl (s.peek s.main.hl) :: s.bus := by
  refine ⟨?_, ?_, ?_, rfl, rfl, rfl⟩ <;>
    simp [blockLoad, State.setPair, State.setFlags, State.memRead, State.memWrite, Bank.de, Bank.hl, Bank.bc]

theorem blockCompare_eq (delta : Word) (s : State) :
    (blockCompare delta s).main.hl = s.main.hl + delta ∧ (blockCompare delta s).main.bc = s.main.bc - 1 ∧
      (blockCompare delta s).main.a = s.main.a ∧ (blockCompare delta s).mem = s.mem ∧
      (blockCompare delta s).bus = .memRead s.main.hl (s.peek s.main.hl) :: s.bus := by
  refine ⟨?_, ?_, rfl, rfl, rfl⟩ <;>
    simp [blockCompare, State.setPair, State.setFlags, State.memRead, Bank.hl, Bank.bc]

theorem blockIn_eq (delta : Word) (s : State) :
    (blockIn delta s).main.hl = s.main.hl + delta ∧ (blockIn delta s).main.b = (dec8 s.main.b s.flags).1 ∧
      (blockIn delta s).main.c = s.main.c ∧ (blockIn delta s).mem = storeCell s.params s.mem s.main.hl (s.ioAnswer s.main.bc) ∧
      (blockIn delta s).bus =
        .memWrite s.main.hl (s.ioAnswer s.main.bc) :: .ioRead s.main.bc (s.ioAnswer s.main.bc) :: s.bus := by
  refine ⟨?_, rfl, rfl, rfl, rfl⟩
  simp [blockIn, blockIoEnd, State.setPair, State.setReg, State.setFlags, State.ioRead, State.memWrite, Bank.hl, Bank.set]

theorem blockOut_eq (delta : Word) (s : State) :
    (blockOut delta s).main.hl = s.main.hl + delta ∧ (blockOut delta s).main.b = (dec8 s.main.b s.flags).1 ∧
      (blockOut delta s).main.c = s.main.c ∧ (blockOut delta s).mem = s.mem ∧
      (blockOut delta s).bus =
        .ioWrite s.main.bc (s.peek s.main.hl) :: .memRead s.main.hl (s.peek s.main.hl) :: s.bus := by
  refine ⟨?_, rfl, rfl, rfl, rfl⟩
  simp [blockOut, blockIoEnd, State.setPair, State.setReg, State.setFlags, State.memRead, State.ioWrite, Bank.hl, Bank.set]

theorem repeatUnless_eq (done : Bool) (s : State) :
    repeatUnless done s = .next (if done then s.setPc (s.pc + 2) else s.addCyc 5) := by
  cases done <;> rfl

/-! ### What an outcome carries -/

@[simp] theorem onNext_next (f : State → State) (t : State) : onNext f (.next t) = .next (f t) := rfl

end Sys2Proof.Machine
end

