-- ==== Sys2Proof/Tests/Slice0.lean ====
section
/-! SUPPORT. The model's own tests: the words of the spec's encoding tables and what they decode to, the ill-formed terms the checks
refuse, one-step tests with the values of spec/95_test_vectors.md, and a witness for the hypotheses of every statement. -/

namespace Sys2Proof.Tests

open Sys2Proof.Machine

/-! ### Decoding: one word for every constructor, written out from spec/opcode_table.json (30_encoding.md R100 to R104) -/

/-- Each list of bytes is one whole instruction (a lone `DD` or `FD` is followed by itself) and decodes to the term beside it. -/
def decodesAs (rows : List (List Byte × Instr)) : Bool :=
  rows.all fun row =>
    match decode row.1 with
    | .ok (i, rest) => decide (i = row.2) && decide (rest = row.1.drop i.length)
    | .error _ => false

theorem test_decode_io_system : decodesAs [
    ([0x00], .nop), ([0x76], .halt), ([0xD3, 0x9C], .outIndNA 0x9C), ([0xDB, 0x9C], .inAIndN 0x9C), ([0xF3], .di),
    ([0xFB], .ei), ([0xED, 0x78], .inRIndC .a), ([0xED, 0x70], .inIndC), ([0xED, 0x41], .outIndCR .b),
    ([0xED, 0x71], .outIndC0), ([0xED, 0x4D], .reti), ([0xED, 0x45], .retn 0), ([0xED, 0x6E], .im0 5),
    ([0xED, 0x76], .im1 6), ([0xED, 0x7E], .im2 7), ([0xED, 0x47], .ldIA), ([0xED, 0x4F], .ldRefreshA),
    ([0xED, 0x57], .ldAI), ([0xED, 0x5F], .ldARefresh)] = true := by decide

theorem test_decode_load16 : decodesAs [
    ([0x08], .exAfAf), ([0x01, 0x34, 0x12], .ldDdNn .bc 0x1234), ([0x22, 0x34, 0x12], .ldIndNnHl 0x1234),
    ([0x2A, 0x34, 0x12], .ldHlIndNn 0x1234), ([0xF1], .popQq .af), ([0xD9], .exx), ([0xF9], .ldSpHl),
    ([0xE3], .exIndSpHl), ([0xEB], .exDeHl), ([0xD5], .pushQq .de), ([0xED, 0x73, 0x34, 0x12], .ldIndNnDd 0x1234 .sp),
    ([0xED, 0x5B, 0x34, 0x12], .ldDdIndNn .de 0x1234)] = true := by decide

theorem test_decode_control : decodesAs [
    ([0x10, 0xFE], .djnz 0xFE), ([0x18, 0xFE], .jr 0xFE), ([0x38, 0xFE], .jrCc .c 0xFE), ([0xF0], .retCc .p),
    ([0xC9], .ret), ([0xE9], .jpIndHl), ([0xE2, 0x34, 0x12], .jpCcNn .po 0x1234), ([0xC3, 0x34, 0x12], .jpNn 0x1234),
    ([0xE4, 0x34, 0x12], .callCcNn .po 0x1234), ([0xCD, 0x34, 0x12], .callNn 0x1234), ([0xDF], .rstP 3)] = true := by decide

theorem test_decode_alu16 : decodesAs [
    ([0x19], .addHlSs .de), ([0x23], .incSs .hl), ([0x3B], .decSs .sp), ([0xED, 0x62], .sbcHlSs .hl),
    ([0xED, 0x7A], .adcHlSs .sp)] = true := by decide

theorem test_decode_load8 : decodesAs [
    ([0x02], .ldIndBcA), ([0x12], .ldIndDeA), ([0x32, 0x34, 0x12], .ldIndNnA 0x1234), ([0x0A], .ldAIndBc),
    ([0x1A], .ldAIndDe), ([0x3A, 0x34, 0x12], .ldAIndNn 0x1234), ([0x06, 0x9C], .ldRN .b 0x9C),
    ([0x36, 0x9C], .ldIndHlN 0x9C), ([0x55], .ldRR .d .l), ([0x7E], .ldRIndHl .a), ([0x74], .ldIndHlR .h)] = true := by decide

theorem test_decode_alu8_1 : decodesAs [
    ([0x24], .incR .h), ([0x34], .incIndHl), ([0x3D], .decR .a), ([0x35], .decIndHl), ([0x27], .daa), ([0x2F], .cpl),
    ([0x37], .scf), ([0x3F], .ccf), ([0x87], .addAR .a), ([0x86], .addAIndHl), ([0xC6, 0x9C], .addAN 0x9C),
    ([0x8D], .adcAR .l), ([0x8E], .adcAIndHl), ([0xCE, 0x9C], .adcAN 0x9C), ([0x94], .subR .h), ([0x96], .subIndHl),
    ([0xD6, 0x9C], .subN 0x9C), ([0x9B], .sbcAR .e), ([0x9E], .sbcAIndHl), ([0xDE, 0x9C], .sbcAN 0x9C),
    ([0xA2], .andR .d), ([0xA6], .andIndHl)] = true := by decide

theorem test_decode_alu8_2 : decodesAs [
    ([0xE6, 0x9C], .andN 0x9C), ([0xA9], .xorR .c), ([0xAE], .xorIndHl), ([0xEE, 0x9C], .xorN 0x9C), ([0xB0], .orR .b),
    ([0xB6], .orIndHl), ([0xF6, 0x9C], .orN 0x9C), ([0xBF], .cpR .a), ([0xBE], .cpIndHl), ([0xFE, 0x9C], .cpN 0x9C),
    ([0xED, 0x74], .neg 6)] = true := by decide

theorem test_decode_rotate_shift_bit_1 : decodesAs [
    ([0x07], .rlca), ([0x0F], .rrca), ([0x17], .rla), ([0x1F], .rra), ([0xCB, 0x00], .rlcR .b),
    ([0xCB, 0x06], .rlcIndHl), ([0xCB, 0x0A], .rrcR .d), ([0xCB, 0x0E], .rrcIndHl), ([0xCB, 0x14], .rlR .h),
    ([0xCB, 0x16], .rlIndHl), ([0xCB, 0x1F], .rrR .a), ([0xCB, 0x1E], .rrIndHl), ([0xCB, 0x20], .slaR .b),
    ([0xCB, 0x26], .slaIndHl), ([0xCB, 0x2A], .sraR .d), ([0xCB, 0x2E], .sraIndHl), ([0xCB, 0x34], .sllR .h),
    ([0xCB, 0x36], .sllIndHl), ([0xCB, 0x3F], .srlR .a), ([0xCB, 0x3E], .srlIndHl), ([0xCB, 0x43], .bitBR 0 .e),
    ([0xCB, 0x6E], .bitBIndHl 5)] = true := by decide

theorem test_decode_rotate_shift_bit_2 : decodesAs [
    ([0xCB, 0x95], .resBR 2 .l), ([0xCB, 0xBE], .resBIndHl 7), ([0xCB, 0xE7], .setBR 4 .a),
    ([0xCB, 0xCE], .setBIndHl 1), ([0xED, 0x67], .rrd), ([0xED, 0x6F], .rld)] = true := by decide

theorem test_decode_block : decodesAs [
    ([0xED, 0xA0], .ldi), ([0xED, 0xA8], .ldd), ([0xED, 0xB0], .ldir), ([0xED, 0xB8], .lddr), ([0xED, 0xA1], .cpi),
    ([0xED, 0xA9], .cpd), ([0xED, 0xB1], .cpir), ([0xED, 0xB9], .cpdr), ([0xED, 0xA2], .ini), ([0xED, 0xAA], .ind),
    ([0xED, 0xB2], .inir), ([0xED, 0xBA], .indr), ([0xED, 0xA3], .outi), ([0xED, 0xAB], .outd), ([0xED, 0xB3], .otir),
    ([0xED, 0xBB], .otdr)] = true := by decide

theorem test_decode_degenerate : decodesAs [
    ([0xED, 0x00], .edNop00 0x00), ([0xED, 0x77], .edNop77), ([0xED, 0x7F], .edNop7F), ([0xED, 0x80], .edNop80 0x80),
    ([0xED, 0xA4], .edNopA4 0xA4), ([0xED, 0xC0], .edNopC0 0xC0), ([0xDD, 0xDD], .loneDd), ([0xFD, 0xFD], .loneFd)] = true := by decide

theorem test_decode_index_1 : decodesAs [
    ([0xDD, 0x09], .addIxPp .bc), ([0xDD, 0x21, 0x34, 0x12], .ldIxNn 0x1234),
    ([0xDD, 0x22, 0x34, 0x12], .ldIndNnIx 0x1234), ([0xDD, 0x2A, 0x34, 0x12], .ldIxIndNn 0x1234),
    ([0xDD, 0x23], .incIx), ([0xDD, 0x2B], .decIx), ([0xDD, 0x24], .incIxh), ([0xDD, 0x2C], .incIxl),
    ([0xDD, 0x25], .decIxh), ([0xDD, 0x2D], .decIxl), ([0xDD, 0x26, 0x9C], .ldIxhN 0x9C),
    ([0xDD, 0x2E, 0x9C], .ldIxlN 0x9C), ([0xDD, 0x34, 0x85], .incIndIxd 0x85), ([0xDD, 0x35, 0x85], .decIndIxd 0x85),
    ([0xDD, 0x36, 0x85, 0x9C], .ldIndIxdN 0x85 0x9C), ([0xDD, 0x5E, 0x85], .ldRIndIxd .e 0x85),
    ([0xDD, 0x73, 0x85], .ldIndIxdR 0x85 .e), ([0xDD, 0x7C], .ldRIxh .a), ([0xDD, 0x55], .ldRIxl .d),
    ([0xDD, 0x67], .ldIxhR .a), ([0xDD, 0x6F], .ldIxlR .a), ([0xDD, 0x64], .ldIxhIxh)] = true := by decide

theorem test_decode_index_2 : decodesAs [
    ([0xDD, 0x65], .ldIxhIxl), ([0xDD, 0x6C], .ldIxlIxh), ([0xDD, 0x6D], .ldIxlIxl), ([0xDD, 0x84], .addAIxh),
    ([0xDD, 0x85], .addAIxl), ([0xDD, 0x86, 0x85], .addAIndIxd 0x85), ([0xDD, 0x8C], .adcAIxh),
    ([0xDD, 0x8D], .adcAIxl), ([0xDD, 0x8E, 0x85], .adcAIndIxd 0x85), ([0xDD, 0x94], .subIxh), ([0xDD, 0x95], .subIxl),
    ([0xDD, 0x96, 0x85], .subIndIxd 0x85), ([0xDD, 0x9C], .sbcAIxh), ([0xDD, 0x9D], .sbcAIxl),
    ([0xDD, 0x9E, 0x85], .sbcAIndIxd 0x85), ([0xDD, 0xA4], .andIxh), ([0xDD, 0xA5], .andIxl),
    ([0xDD, 0xA6, 0x85], .andIndIxd 0x85), ([0xDD, 0xAC], .xorIxh), ([0xDD, 0xAD], .xorIxl),
    ([0xDD, 0xAE, 0x85], .xorIndIxd 0x85), ([0xDD, 0xB4], .orIxh)] = true := by decide

theorem test_decode_index_3 : decodesAs [
    ([0xDD, 0xB5], .orIxl), ([0xDD, 0xB6, 0x85], .orIndIxd 0x85), ([0xDD, 0xBC], .cpIxh), ([0xDD, 0xBD], .cpIxl),
    ([0xDD, 0xBE, 0x85], .cpIndIxd 0x85), ([0xDD, 0xE1], .popIx), ([0xDD, 0xE3], .exIndSpIx), ([0xDD, 0xE5], .pushIx),
    ([0xDD, 0xE9], .jpIndIx), ([0xDD, 0xF9], .ldSpIx), ([0xFD, 0x09], .addIyPp .bc),
    ([0xFD, 0x21, 0x34, 0x12], .ldIyNn 0x1234), ([0xFD, 0x22, 0x34, 0x12], .ldIndNnIy 0x1234),
    ([0xFD, 0x2A, 0x34, 0x12], .ldIyIndNn 0x1234), ([0xFD, 0x23], .incIy), ([0xFD, 0x2B], .decIy),
    ([0xFD, 0x24], .incIyh), ([0xFD, 0x2C], .incIyl), ([0xFD, 0x25], .decIyh), ([0xFD, 0x2D], .decIyl),
    ([0xFD, 0x26, 0x9C], .ldIyhN 0x9C), ([0xFD, 0x2E, 0x9C], .ldIylN 0x9C)] = true := by decide

theorem test_decode_index_4 : decodesAs [
    ([0xFD, 0x34, 0x85], .incIndIyd 0x85), ([0xFD, 0x35, 0x85], .decIndIyd 0x85),
    ([0xFD, 0x36, 0x85, 0x9C], .ldIndIydN 0x85 0x9C), ([0xFD, 0x7E, 0x85], .ldRIndIyd .a 0x85),
    ([0xFD, 0x77, 0x85], .ldIndIydR 0x85 .a), ([0xFD, 0x4C], .ldRIyh .c), ([0xFD, 0x7D], .ldRIyl .a),
    ([0xFD, 0x63], .ldIyhR .e), ([0xFD, 0x68], .ldIylR .b), ([0xFD, 0x64], .ldIyhIyh), ([0xFD, 0x65], .ldIyhIyl),
    ([0xFD, 0x6C], .ldIylIyh), ([0xFD, 0x6D], .ldIylIyl), ([0xFD, 0x84], .addAIyh), ([0xFD, 0x85], .addAIyl),
    ([0xFD, 0x86, 0x85], .addAIndIyd 0x85), ([0xFD, 0x8C], .adcAIyh), ([0xFD, 0x8D], .adcAIyl),
    ([0xFD, 0x8E, 0x85], .adcAIndIyd 0x85), ([0xFD, 0x94], .subIyh), ([0xFD, 0x95], .subIyl),
    ([0xFD, 0x96, 0x85], .subIndIyd 0x85)] = true := by decide

theorem test_decode_index_5 : decodesAs [
    ([0xFD, 0x9C], .sbcAIyh), ([0xFD, 0x9D], .sbcAIyl), ([0xFD, 0x9E, 0x85], .sbcAIndIyd 0x85), ([0xFD, 0xA4], .andIyh),
    ([0xFD, 0xA5], .andIyl), ([0xFD, 0xA6, 0x85], .andIndIyd 0x85), ([0xFD, 0xAC], .xorIyh), ([0xFD, 0xAD], .xorIyl),
    ([0xFD, 0xAE, 0x85], .xorIndIyd 0x85), ([0xFD, 0xB4], .orIyh), ([0xFD, 0xB5], .orIyl),
    ([0xFD, 0xB6, 0x85], .orIndIyd 0x85), ([0xFD, 0xBC], .cpIyh), ([0xFD, 0xBD], .cpIyl),
    ([0xFD, 0xBE, 0x85], .cpIndIyd 0x85), ([0xFD, 0xE1], .popIy), ([0xFD, 0xE3], .exIndSpIy), ([0xFD, 0xE5], .pushIy),
    ([0xFD, 0xE9], .jpIndIy), ([0xFD, 0xF9], .ldSpIy)] = true := by decide

theorem test_decode_index_bit_1 : decodesAs [
    ([0xDD, 0xCB, 0x85, 0x06], .rlcIndIxd 0x85), ([0xDD, 0xCB, 0x85, 0x07], .rlcIndIxdR 0x85 .a),
    ([0xDD, 0xCB, 0x85, 0x0E], .rrcIndIxd 0x85), ([0xDD, 0xCB, 0x85, 0x08], .rrcIndIxdR 0x85 .b),
    ([0xDD, 0xCB, 0x85, 0x16], .rlIndIxd 0x85), ([0xDD, 0xCB, 0x85, 0x12], .rlIndIxdR 0x85 .d),
    ([0xDD, 0xCB, 0x85, 0x1E], .rrIndIxd 0x85), ([0xDD, 0xCB, 0x85, 0x1C], .rrIndIxdR 0x85 .h),
    ([0xDD, 0xCB, 0x85, 0x26], .slaIndIxd 0x85), ([0xDD, 0xCB, 0x85, 0x27], .slaIndIxdR 0x85 .a),
    ([0xDD, 0xCB, 0x85, 0x2E], .sraIndIxd 0x85), ([0xDD, 0xCB, 0x85, 0x28], .sraIndIxdR 0x85 .b),
    ([0xDD, 0xCB, 0x85, 0x36], .sllIndIxd 0x85), ([0xDD, 0xCB, 0x85, 0x32], .sllIndIxdR 0x85 .d),
    ([0xDD, 0xCB, 0x85, 0x3E], .srlIndIxd 0x85), ([0xDD, 0xCB, 0x85, 0x3C], .srlIndIxdR 0x85 .h),
    ([0xDD, 0xCB, 0x85, 0x74], .bitBIndIxd 6 0x85 4), ([0xDD, 0xCB, 0x85, 0x9E], .resBIndIxd 3 0x85),
    ([0xDD, 0xCB, 0x85, 0xC6], .setBIndIxd 0 0x85), ([0xDD, 0xCB, 0x85, 0xAB], .resBIndIxdR 5 0x85 .e),
    ([0xDD, 0xCB, 0x85, 0xD0], .setBIndIxdR 2 0x85 .b), ([0xFD, 0xCB, 0x85, 0x06], .rlcIndIyd 0x85)] = true := by decide

theorem test_decode_index_bit_2 : decodesAs [
    ([0xFD, 0xCB, 0x85, 0x02], .rlcIndIydR 0x85 .d), ([0xFD, 0xCB, 0x85, 0x0E], .rrcIndIyd 0x85),
    ([0xFD, 0xCB, 0x85, 0x0C], .rrcIndIydR 0x85 .h), ([0xFD, 0xCB, 0x85, 0x16], .rlIndIyd 0x85),
    ([0xFD, 0xCB, 0x85, 0x17], .rlIndIydR 0x85 .a), ([0xFD, 0xCB, 0x85, 0x1E], .rrIndIyd 0x85),
    ([0xFD, 0xCB, 0x85, 0x18], .rrIndIydR 0x85 .b), ([0xFD, 0xCB, 0x85, 0x26], .slaIndIyd 0x85),
    ([0xFD, 0xCB, 0x85, 0x22], .slaIndIydR 0x85 .d), ([0xFD, 0xCB, 0x85, 0x2E], .sraIndIyd 0x85),
    ([0xFD, 0xCB, 0x85, 0x2C], .sraIndIydR 0x85 .h), ([0xFD, 0xCB, 0x85, 0x36], .sllIndIyd 0x85),
    ([0xFD, 0xCB, 0x85, 0x37], .sllIndIydR 0x85 .a), ([0xFD, 0xCB, 0x85, 0x3E], .srlIndIyd 0x85),
    ([0xFD, 0xCB, 0x85, 0x38], .srlIndIydR 0x85 .b), ([0xFD, 0xCB, 0x85, 0x50], .bitBIndIyd 2 0x85 0),
    ([0xFD, 0xCB, 0x85, 0xBE], .resBIndIyd 7 0x85), ([0xFD, 0xCB, 0x85, 0xE6], .setBIndIyd 4 0x85),
    ([0xFD, 0xCB, 0x85, 0x8F], .resBIndIydR 1 0x85 .a), ([0xFD, 0xCB, 0x85, 0xF4], .setBIndIydR 6 0x85 .h)] = true := by decide

/-- A list that ends before the decode has the bytes it reads is refused by name. -/
theorem test_decode_truncated : decode [0xDD, 0xCB, 0x05] = .error .truncated ∧ decode [] = .error .truncated := ⟨rfl, rfl⟩

/-- 30_encoding.md R107: the bytes of the opcode table's numbering, first byte least significant. -/
theorem test_table_word : decodeTableWord 32 0x300540CB = some (.bitBR 0 .b) ∧ decodeTableWord 8 0x3E = some (.ldRN .a 0) ∧
    decodeTableWord 32 0x3005CBDD = some (.sllIndIxdR 5 .b) := ⟨rfl, rfl, rfl⟩

/-! ### Well-formedness: an ill-formed term for each check, which the check refuses -/

theorem test_ill_formed_control : ¬WellFormed (.jrCc .po 0) ∧ ¬WellFormed (.jrCc .m 0) ∧ ¬WellFormed (.retn 1) := by decide
theorem test_ill_formed_modes : ¬WellFormed (.im0 2) ∧ ¬WellFormed (.im1 0) ∧ ¬WellFormed (.im2 0) := by decide
theorem test_ill_formed_ed : ¬WellFormed (.edNop00 0x40) ∧ ¬WellFormed (.edNop80 0x00) ∧ ¬WellFormed (.edNopA4 0xA0) ∧
    ¬WellFormed (.edNopC0 0x00) := by decide
theorem test_ill_formed_halves_ix : ¬WellFormed (.ldRIxh .h) ∧ ¬WellFormed (.ldRIxl .l) ∧ ¬WellFormed (.ldIxhR .h) ∧
    ¬WellFormed (.ldIxlR .l) := by decide
theorem test_ill_formed_halves_iy : ¬WellFormed (.ldRIyh .l) ∧ ¬WellFormed (.ldRIyl .h) ∧ ¬WellFormed (.ldIyhR .l) ∧
    ¬WellFormed (.ldIylR .h) := by decide

/-! ### One step each (spec/95_test_vectors.md, Part 2, but where a line says otherwise) -/

/-- The state after reset with `code` at `pc` and the main bank `b`. -/
def start (pc : Word) (code : List Byte) (b : Bank) : State :=
  { State.reset with pc := pc, main := b, mem := placeBytes [] pc code }

/-- `s` with further bytes in memory. -/
def withBytes (s : State) (a : Word) (bytes : List Byte) : State := { s with mem := placeBytes s.mem a bytes }

/-- A main bank from its pairs. -/
def bank (af bc de hl : Word) : Bank :=
  { a := wordHi af, f := wordLo af, b := wordHi bc, c := wordLo bc, d := wordHi de, e := wordLo de, h := wordHi hl, l := wordLo hl }

/-- The outcome is a next state of which `p` holds. -/
def goes (o : Out) (p : State → Bool) : Bool :=
  match o with
  | .next t => p t
  | .fault _ => false
  | .refused _ => false

theorem test_ld_r_n : goes (step (start 0 [0x3E, 0x7F] (bank 0 0 0 0)))
    (fun t => t.main.a == 0x7F && t.pc == 2 && t.r == 1) = true := by decide
/-- The operand fetch wraps from `FFFF` to `0000`. -/
theorem test_fetch_wraps : goes (step (start 0xFFFF [0x3E, 0x99] (bank 0 0 0 0)))
    (fun t => t.main.a == 0x99 && t.pc == 1) = true := by decide
theorem test_ld_nn_hl : goes (step (start 0 [0x22, 0x00, 0x80] (bank 0 0 0 0x1234)))
    (fun t => t.peek 0x8000 == 0x34 && t.peek 0x8001 == 0x12 && t.pc == 3) = true := by decide
theorem test_push_wraps : goes (step { start 0x100 [0xC5] (bank 0 0x1234 0 0) with sp := 1 })
    (fun t => t.sp == 0xFFFF && t.peek 0 == 0x12 && t.peek 0xFFFF == 0x34) = true := by decide
theorem test_ex_sp_hl : goes (step (withBytes { start 0 [0xE3] (bank 0 0 0 0xABCD) with sp := 0xDFEE } 0xDFEE [0x34, 0x12]))
    (fun t => t.main.hl == 0x1234 && t.bus.take 2 == [.memWrite 0xDFEE 0xCD, .memWrite 0xDFEF 0xAB]) = true := by decide
theorem test_add : goes (step (start 0 [0x80] (bank 0x1500 0x2700 0 0)))
    (fun t => t.main.af == 0x3C28 && t.pc == 1) = true := by decide
theorem test_sub_borrow : goes (step (withBytes (start 0 [0x96] (bank 0 0 0 0x4000)) 0x4000 [0x01]))
    (fun t => t.main.af == 0xFFBB) = true := by decide
theorem test_sbc_a_a : goes (step (start 0 [0x9F] (bank 0x3301 0 0 0))) (fun t => t.main.af == 0xFFBB) = true := by decide
theorem test_cp_hidden_flags_of_operand : goes (step (start 0 [0xB8] (bank 0x4000 0x2800 0 0)))
    (fun t => t.main.af == 0x403A) = true := by decide
theorem test_inc_overflow : goes (step (start 0 [0x3C] (bank 0x7F00 0 0 0))) (fun t => t.main.af == 0x8094) = true := by decide
theorem test_daa_old_a : goes (step (start 0 [0x27] (bank 0x9410 0 0 0))) (fun t => t.main.af == 0x9A8C) = true := by decide
theorem test_daa_subtract : goes (step (start 0 [0x27] (bank 0x2D3A 0 0 0))) (fun t => t.main.af == 0x2726) = true := by decide
theorem test_neg_80 : goes (step (start 0 [0xED, 0x44] (bank 0x8000 0 0 0)))
    (fun t => t.main.af == 0x8087 && t.r == 2) = true := by decide
theorem test_add_hl_keeps_szp : goes (step (start 0 [0x29] (bank 0x00C4 0 0 0x8000)))
    (fun t => t.main.hl == 0 && t.main.f == 0xC5) = true := by decide
theorem test_sbc_hl_overflow : goes (step (start 0 [0xED, 0x42] (bank 0 1 0 0x8000)))
    (fun t => t.main.hl == 0x7FFF && t.main.f == 0x3E) = true := by decide
theorem test_rlca : goes (step (start 0 [0x07] (bank 0x80FF 0 0 0))) (fun t => t.main.af == 0x01C5) = true := by decide
theorem test_sll_shifts_in_one : goes (step (withBytes (start 0 [0xCB, 0x36] (bank 0 0 0 0x4000)) 0x4000 [0x7F]))
    (fun t => t.peek 0x4000 == 0xFF && t.main.f == 0xAC) = true := by decide
theorem test_bit_3 : goes (step (start 0 [0xCB, 0x58] (bank 0 0x0800 0 0))) (fun t => t.main.f == 0x18) = true := by decide
theorem test_rld : goes (step (withBytes (start 0 [0xED, 0x6F] (bank 0x7A00 0 0 0x4000)) 0x4000 [0x31]))
    (fun t => t.main.af == 0x7320 && t.peek 0x4000 == 0x1A) = true := by decide
theorem test_jr_backward : goes (step (start 0x10 [0x20, 0xFC] (bank 0 0 0 0))) (fun t => t.pc == 0x0E) = true := by decide
theorem test_djnz_of_zero : goes (step (start 2 [0x10, 0xFE] (bank 0 0 0 0)))
    (fun t => t.main.b == 0xFF && t.pc == 2) = true := by decide
theorem test_call : goes (step (start 0x100 [0xCD, 0x00, 0x20] (bank 0 0 0 0)))
    (fun t => t.pc == 0x2000 && t.sp == 0xDFEE && t.peek 0xDFEF == 0x01 && t.peek 0xDFEE == 0x03) = true := by decide
theorem test_rst_at_top_of_memory : goes (step (start 0xFFFF [0xC7] (bank 0 0 0 0)))
    (fun t => t.pc == 0 && t.peek 0xDFEF == 0 && t.peek 0xDFEE == 0) = true := by decide
theorem test_in_r_c : goes (step { start 0 [0xED, 0x40] (bank 1 0x1234 0 0) with hostAnswers := [0x80] })
    (fun t => t.main.bc == 0x8034 && t.main.f == 0x81 && t.bus.head? == some (.ioRead 0x1234 0x80)) = true := by decide
theorem test_r_wraps_in_seven_bits : goes (step { start 0 [0x00] (bank 0 0 0 0) with r := 0xFF })
    (fun t => t.r == 0x80 && t.pc == 1) = true := by decide
theorem test_ld_a_r_reads_the_incremented_r : goes (step { start 0 [0xED, 0x5F] (bank 0 0 0 0) with r := 0x7E, iff2 := true })
    (fun t => t.main.af == 0x0044 && t.r == 0) = true := by decide
theorem test_ei_is_delayed : goes (step (start 0 [0xFB, 0x00] (bank 0 0 0 0)))
    (fun t => !t.iff1 && t.pendingEi && goes (step t) fun u => u.iff1 && u.iff2 && !u.pendingEi) = true := by decide
theorem test_ei_then_retn_commits : goes (step { start 0x66 [0xED, 0x45] (bank 0 0 0 0) with pendingEi := true })
    (fun t => t.iff1 && t.iff2) = true := by decide
theorem test_ldir_first_iteration :
    goes (step (withBytes (start 0x100 [0xED, 0xB0] (bank 0 2 0x20 0x10)) 0x10 [0xDE, 0xAD]))
    (fun t => t.main == bank 0x002C 1 0x21 0x11 && t.pc == 0x100 && t.peek 0x20 == 0xDE) = true := by decide
theorem test_cpi : goes (step (withBytes (start 0x100 [0xED, 0xA1] (bank 0x1001 5 0 0x4000)) 0x4000 [0x01]))
    (fun t => t.main == bank 0x103F 4 0 0x4001 && t.pc == 0x102) = true := by decide
/-- `B = 0` but `BC ≠ 0`: repeats under the default parameter, ends under the other. -/
theorem test_otir_parameter :
    goes (step (withBytes (start 0x100 [0xED, 0xB3] (bank 0 0x0134 0 0x4000)) 0x4000 [0xAA])) (fun t => t.pc == 0x100) = true ∧
    goes (step { withBytes (start 0x100 [0xED, 0xB3] (bank 0 0x0134 0 0x4000)) 0x4000 [0xAA] with
      params := { Config.Params.default with ioBlockRepeatOnBc := false } }) (fun t => t.pc == 0x102) = true := by decide
theorem test_ld_h_from_ix_d : goes (step (withBytes { start 0x100 [0xDD, 0x66, 0x01] (bank 0 0 0 0xAAAA) with ix := 0x1000 } 0x1001 [0x42]))
    (fun t => t.main.hl == 0x42AA && t.ix == 0x1000 && t.pc == 0x103) = true := by decide
theorem test_index_wraps_down : goes (step (withBytes (start 0x100 [0xDD, 0x7E, 0x80] (bank 0 0 0 0)) 0xFF80 [0x67]))
    (fun t => t.main.a == 0x67) = true := by decide
theorem test_rr_ix_d_copies_to_h :
    goes (step (withBytes { start 0x100 [0xDD, 0xCB, 0xFF, 0x1C] (bank 1 0 0 0xAAAA) with ix := 0x1000 } 0xFFF [0x01]))
    (fun t => t.main.hl == 0x80AA && t.main.f == 0x81 && t.peek 0xFFF == 0x80 && t.pc == 0x104) = true := by decide
theorem test_lone_prefix_is_a_step : goes (step { start 0 [0xDD, 0xEB] (bank 0 0 0x1111 0x2222) with ix := 0x3333 })
    (fun t => t.pc == 1 && t.r == 1 && goes (step t) fun u => u.main.de == 0x2222 && u.ix == 0x3333 && u.pc == 2 && u.r == 2) =
    true := by decide
theorem test_ed_ed : goes (step (start 0x100 [0xED, 0xED, 0x44] (bank 0x0100 0 0 0)))
    (fun t => t.main.a == 1 && t.pc == 0x102 && t.r == 2) = true := by decide

/-! The host memory: a map with ROM below 4000h and a device at C000h (20_memory.md R60, R61; "may be a no-op for ROM"). -/

/-- `s` behind that map. -/
def mapped (s : State) : State :=
  { s with params := { s.params with memMap := [⟨0x0000, 0x3FFF, .rom⟩, ⟨0xC000, 0xC0FF, .device⟩] } }

theorem test_rom_write_is_a_no_op :
    goes (step (mapped (withBytes (start 0x100 [0x70] (bank 0 0x1200 0 0x3FFF)) 0x3FFF [0x99])))
      (fun t => t.peek 0x3FFF == 0x99 && t.bus.head? == some (.memWrite 0x3FFF 0x12)) = true ∧
    goes (step (mapped (start 0x100 [0x70] (bank 0 0x1200 0 0x4000)))) (fun t => t.peek 0x4000 == 0x12) = true := by decide
/-- Two reads of one device address answer what the host makes of each. -/
theorem test_device_read_is_the_hosts :
    goes (step { mapped (start 0x100 [0x7E, 0x7E] (bank 0 0 0 0xC000)) with hostAnswers := [0x12, 0x34] })
      (fun t => t.main.a == 0x12 && goes (step t) fun u => u.main.a == 0x34 && u.hostAnswers == []) = true := by decide
/-- Instruction bytes come from a device one by one, too. -/
theorem test_fetch_from_a_device :
    goes (step { mapped (start 0xC000 [] (bank 0 0 0 0)) with hostAnswers := [0x3E, 0x56, 0x78] })
      (fun t => t.main.a == 0x56 && t.pc == 0xC002 && t.hostAnswers == [0x78]) = true := by decide

/-- `CPIR` from a device that `(HL)` lies in, too: it compares with the byte answered after the two fetched ones, and repeats
(48_block.md R447: 5 T-states more). -/
def searchInDevice : State :=
  { mapped (start 0xC000 [] (bank 0xED00 2 0 0xC010)) with hostAnswers := [0xED, 0xB1, 0x00] }
theorem test_extra_is_of_the_fetched_state :
    extraCost searchInDevice.nextInstr searchInDevice.fetched = 5 ∧
      goes (step searchInDevice) (fun t => t.pc == 0xC000 && t.main.bc == 1 && !t.flags.z) = true := by decide

/-- 00_scope.md R6: the composite plane's term is 0 by default, and a parameter (49_index.md R527). -/
theorem test_ddcb_term (op : Byte) :
    handlerCost Config.Params.default 0xDD 0xCB op = some (cycleCountsDd 0xCB) ∧
      handlerCost { Config.Params.default with ddcbCosts := [3] } 0xFD 0xCB 0x00 = some (cycleCountsDd 0xCB + 3) := by
  constructor
  · simp [handlerCost, Config.Params.cycleCountsDdcb, Config.Params.default]
  · rfl

/-! Interrupts: the same file, the calls of `irq`. -/

/-- Interrupts enabled in a mode, `PC = 1234`. -/
def enabled (m : IntMode) : State := { start 0x1234 [] (bank 0 0 0 0) with iff1 := true, iff2 := true, im := m }

theorem test_irq_mode_1 : goes (irq false 0 (enabled .im1))
    (fun t => t.pc == 0x38 && t.sp == 0xDFEE && t.peek 0xDFEF == 0x12 && t.peek 0xDFEE == 0x34 && !t.iff1 && !t.iff2 && t.r == 1 &&
      t.cyc == 13) = true := by decide
theorem test_irq_mode_2_odd_vector : goes (irq false 0xFF { withBytes (enabled .im2) 0x80FF [0x00, 0x90] with i := 0x80 })
    (fun t => t.pc == 0x9000 && t.cyc == 19) = true := by decide
theorem test_irq_mode_0_call : goes (irq false 0xCD (withBytes (enabled .im0) 0x1234 [0x00, 0x50]))
    (fun t => t.pc == 0x5000 && t.peek 0xDFEF == 0x12 && t.peek 0xDFEE == 0x36 && t.r == 1 && t.cyc == 2) = true := by decide
theorem test_nmi_keeps_the_mask : goes (irq true 0 (enabled .im1))
    (fun t => t.pc == 0x66 && !t.iff1 && t.iff2 && t.cyc == 11) = true := by decide

/-- A scheduled call of `irq` is performed by the step (60_exceptions.md R541). -/
theorem test_step_performs_irq : goes (step { enabled .im1 with schedule := [.irq false 0, .stepInstruction] })
    (fun t => t.pc == 0x38 && t.cyc == 13 && t.schedule == [.stepInstruction]) = true := by decide
/-- Mode 0 with a prefix: `CB 37` counts `R` twice and fetches one byte. -/
theorem test_irq_mode_0_prefix : goes (irq false 0xCB { withBytes (enabled .im0) 0x1234 [0x37] with main := bank 0x8000 0 0 0 })
    (fun t => t.main.af == 0x0101 && t.pc == 0x1235 && t.r == 2 && t.bus == [.memRead 0x1234 0x37]) = true := by decide

/-! The interface of the host: placing a word after reset, and where a device stood. -/

theorem test_with_fetch_word_on_a_device :
    goes (step (({ mapped State.reset with pc := 0xC0FF }).withFetchWord 24 0x12343E)) (fun t => t.main.a == 0x34) = true := by decide

theorem test_with_fetch_word : goes (step (State.reset.withFetchWord 24 0x12343E)) (fun t => t.main.a == 0x34 && t.pc == 2) = true := by
  decide

/-! ### Witnesses: a concrete state and operands that meet all hypotheses of a statement together; several clauses, several lines -/

/-- A state with distinct values: memory canonical, interrupts enabled, running, nothing scheduled. -/
def sample : State :=
  { withBytes (start 0x100 [0x78, 0x12] (bank 0x4501 0x0180 0x8000 0x9000)) 0x9000 [0x45, 0x99] with
    shadow := bank 0x1122 0x3344 0x5566 0x7788, ix := 0x9000, iy := 0xFFFF, sp := 0x0001, iff1 := true, im := .im2 }

theorem witness_DecodeOfEncodeIsTheInstruction :
    (WellFormed (.jrCc .c 0x80) ∧ Instr.jrCc .c 0x80 ≠ .loneDd ∧ Instr.jrCc .c 0x80 ≠ .loneFd) ∧
      (WellFormed (.edNop00 0x3F) ∧ Instr.edNop00 0x3F ≠ .loneDd ∧ Instr.edNop00 0x3F ≠ .loneFd) ∧
      xyRecognised 0xFF = false ∧ xyRecognised 0xDD = false := by decide

theorem witness_StepRunsTheDecodedInstruction : ∃ t,
    sample.halted = false ∧ decode (sample.bytesAt sample.pc 4) = .ok (.ldRR .a .b, [0x12, 0, 0]) ∧
      exec (.ldRR .a .b) sample.fetched = .next t ∧ sample.schedule = [] := ⟨_, rfl, by rfl, rfl, rfl⟩

theorem witness_HaltedTickChangesNothing : sample.setHalted.halted = true ∧ sample.setHalted.schedule = [] := ⟨rfl, rfl⟩

theorem witness_DelayedEnableAndDisable :
    (sample.halted = false ∧ sample.schedule = [] ∧ sample.pendingDi = false ∧ sample.pendingEi = false ∧
      ∀ y, sample.nextInstr ≠ .retn y) ∧
    (sample.setPendingEi.halted = false ∧ sample.setPendingEi.schedule = [] ∧ sample.setPendingEi.pendingEi = true ∧
      sample.setPendingEi.pendingDi = false) ∧
    (sample.setPendingDi.halted = false ∧ sample.setPendingDi.schedule = [] ∧ sample.setPendingDi.pendingDi = true ∧
      sample.setPendingDi.pendingEi = false) ∧
    (sample.setPendingDi.setPendingEi.halted = false ∧ sample.setPendingDi.setPendingEi.schedule = [] ∧
      sample.setPendingDi.setPendingEi.pendingDi = true ∧ sample.setPendingDi.setPendingEi.pendingEi = true) := by decide

theorem witness_StepReturnsItsTStates : (sample.halted = false ∧ sample.schedule = []) ∧
    searchInDevice.halted = false ∧ searchInDevice.schedule = [] := by decide

theorem witness_SpecialRegistersHaveOneWriter : ∃ t, exec .nop sample = .next t ∧ Instr.nop ≠ .ldIA ∧ Instr.nop ≠ .ldRefreshA ∧
    (∀ y, Instr.nop ≠ .retn y) ∧ (∀ y, Instr.nop ≠ .im0 y ∧ Instr.nop ≠ .im1 y ∧ Instr.nop ≠ .im2 y) ∧ Instr.nop ≠ .halt ∧
    Instr.nop ≠ .di ∧ Instr.nop ≠ .ei ∧ Instr.nop ≠ .exAfAf ∧ Instr.nop ≠ .exx := by
  refine ⟨_, rfl, ?_⟩
  decide

theorem witness_IndexRegistersNeedAPrefix : indexPrefixed (.ldRR .h .l) = false ∧ indexPrefixed .exDeHl = false ∧
    indexPrefixed (.ldIxhN 0) = true := by decide
theorem witness_ShadowBankIsIsolated : Instr.exDeHl ≠ .exAfAf ∧ Instr.exDeHl ≠ .exx := by decide
theorem witness_HiddenFlagsAreNotRead : Instr.pushQq .bc ≠ .pushQq .af ∧ Instr.pushQq .bc ≠ .exAfAf := by decide

theorem witness_MemoryFrame : ∃ t u, sample.mem.wf = true ∧ exec (.pushQq .bc) sample = .next t ∧
    (sample.isDevice 0x0001 = false ∧ (0x0001 : Word) ∉ storeAddrs (.pushQq .bc) sample) ∧
    (sample.isDevice 0xFFFE = false ∧ (0xFFFE : Word) ∉ storeAddrs (.pushQq .bc) sample) ∧
    storeAddrs (.pushQq .bc) sample = [0x0000, 0xFFFF] ∧
    ((mapped sample).mem.wf = true ∧ exec (.pushQq .bc) (mapped sample) = .next u ∧ (mapped sample).isDevice 0x0000 = false ∧
      (mapped sample).writable 0x0000 = false) :=
  ⟨_, _, by decide, rfl, by decide, by decide, by decide, by decide, rfl, by decide, by decide⟩

theorem witness_ReadOnlyMemoryNeverChanges : ∃ t, (mapped sample).mem.wf = true ∧ step (mapped sample) = .next t ∧
    (mapped sample).kindAt 0x0000 = .rom ∧ (mapped sample).kindAt 0x3FFF = .rom := ⟨_, by decide, rfl, by decide, by decide⟩

/-- Hypotheses inside a statement's words: an address of RAM and one of ROM (`Changed`), RAM under a stored word (`Stored8`, `Stored16`). -/
theorem witness_Changed : (mapped sample).isDevice 0x4000 = false ∧ (mapped sample).writable 0x4000 = true ∧
    (mapped sample).isDevice 0x3FFF = false ∧ (mapped sample).writable 0x3FFF = false ∧ (mapped sample).isDevice 0xC000 = true ∧
    sample.writable 0xFFFF = true ∧ sample.writable (0xFFFF + 1) = true := by decide

theorem witness_MemoryStaysCanonical : ∃ t, sample.mem.wf = true ∧ step sample = .next t := ⟨_, by decide, rfl⟩
theorem witness_ResetMemoryIsCanonical : sample.mem.wf = true := by decide
theorem witness_StackPrimitives : sample.mem.wf = true := by decide
theorem witness_ResetWritesExactlyThis : { sample with schedule := [.reset, .stepInstruction] }.schedule =
    .reset :: [.stepInstruction] := rfl
theorem witness_NmiIsAlwaysAccepted : sample.mem.wf = true := by decide

theorem witness_MaskableAcceptance :
    ({ sample with iff1 := false }.mem.wf = true ∧ { sample with iff1 := false }.iff1 = false) ∧
    ({ sample with im := .im1 }.mem.wf = true ∧ { sample with im := .im1 }.iff1 = true ∧ { sample with im := .im1 }.im = .im1) ∧
    (sample.mem.wf = true ∧ sample.iff1 = true ∧ sample.im = .im2) := by decide

theorem witness_ModeZeroInjectsTheInstruction :
    { sample with im := .im0 }.iff1 = true ∧ { sample with im := .im0 }.im = .im0 ∧ { sample with im := .im0 }.mem.wf = true ∧
      (0xC7 : Byte) = opXYZ 3 0 7 ∧ (0xFF : Byte) = opXYZ 3 7 7 ∧ (0 : Byte) = 0x00 := by decide

theorem witness_RetnUndoesAnNmi : sample.mem.wf = true ∧ sample.writable (sample.sp - 1) = true ∧
    sample.writable (sample.sp - 2) = true := by decide
theorem witness_Load8 : sample.mem.wf = true := by decide
theorem witness_Load16 : sample.mem.wf = true := by decide
theorem witness_PushAndPop : sample.mem.wf = true := by decide

theorem witness_PushThenPopIsIdentity : sample.mem.wf = true ∧ sample.writable (sample.sp - 1) = true ∧
    sample.writable (sample.sp - 2) = true ∧ sample.isDevice 0x0001 = false ∧ sample.isDevice 0xFFFE = false ∧ (0x0001 : Word) ≠ sample.sp - 1 ∧ (0x0001 : Word) ≠ sample.sp - 2 ∧
    (0xFFFE : Word) ≠ sample.sp - 1 ∧ (0xFFFE : Word) ≠ sample.sp - 2 := by decide

theorem witness_Exchanges : sample.mem.wf = true := by decide
theorem witness_AddAndAdc : (AluOp.add = .add ∨ AluOp.add = .adc) ∧ (AluOp.adc = .add ∨ AluOp.adc = .adc) := by decide

theorem witness_IncAndDec8 : sample.mem.wf = true ∧ incInstr .indHl = some .incIndHl ∧ decInstr .indHl = some .decIndHl ∧
    incInstr (.half .iy .low) = some .incIyl ∧ decInstr (.indexed .ix 0x80) = some (.decIndIxd 0x80) := by decide

theorem witness_DecimalArithmetic : (Bcd 0x99 ∧ Bcd 0x00) ∧ Bcd sample.main.a ∧ Bcd ((Source.imm 0x99).value sample) ∧
    Bcd (Source.indHl.value sample) ∧ Bcd ((Source.indexed .ix 1).value sample) := by
  unfold Bcd
  decide

theorem witness_AccumulatorRotates : (ShiftKind.rlc, Instr.rlca) ∈
    [(.rlc, .rlca), (.rrc, .rrca), (.rl, .rla), (.rr, .rra)] := by decide

theorem witness_ShiftsAndRotates : sample.mem.wf = true ∧ shiftInstr .sll (.reg .a) = some (.sllR .a) ∧
    shiftInstr .rr .indHl = some .rrIndHl ∧ shiftInstr .srl (.indexed .iy 0x7F) = some (.srlIndIyd 0x7F) ∧
    shiftInstr .rlc (.indexedCopy .ix 0x80 .h) = some (.rlcIndIxdR 0x80 .h) := by decide

theorem witness_BitTest : bitInstr 7 0 (.reg .a) = some (.bitBR 7 .a) ∧ bitInstr 0 0 .indHl = some (.bitBIndHl 0) ∧
    bitInstr 5 7 (.indexed .ix 0xFF) = some (.bitBIndIxd 5 0xFF 7) := by decide

theorem witness_ResetAndSetBit : sample.mem.wf = true ∧
    (if true then setInstr 7 (.reg .b) else resInstr 7 (.reg .b)) = some (.setBR 7 .b) ∧
    (if false then setInstr 0 .indHl else resInstr 0 .indHl) = some (.resBIndHl 0) ∧
    (if true then setInstr 3 (.indexedCopy .iy 0 .l) else resInstr 3 (.indexedCopy .iy 0 .l)) = some (.setBIndIydR 3 0 .l) := by
  decide

theorem witness_NibbleRotates : sample.mem.wf = true := by decide

theorem witness_Jumps : sample.cond .c = true ∧ sample.cond .nc = false ∧ sample.main.b = 1 ∧ State.reset.main.b ≠ 1 := by decide

theorem witness_CallsAndReturns : (sample.mem.wf = true ∧ sample.cond .c = true) ∧ sample.cond .m = false ∧ sample.cond .p = true := by
  decide

theorem witness_BlockTransfer : (sample.mem.wf = true ∧ sample.main.bc ≠ 1) ∧ (State.reset.mem.wf = true ∧ State.reset.main.bc ≠ 1) ∧
    { sample with main := bank 0 1 0 0 }.mem.wf = true ∧ { sample with main := bank 0 1 0 0 }.main.bc = 1 := by decide

theorem witness_LdirCopiesTheBlock : let s := { sample with main := bank 0 2 0x8000 0x7FFE }
    s.mem.wf = true ∧ blockCount s = 2 ∧
      (∀ k < 2, s.isDevice (s.main.hl + BitVec.ofNat 16 k) = false ∧ s.writable (s.main.de + BitVec.ofNat 16 k) = true) ∧
      ∀ j < 2, ∀ k < 2, s.main.hl + BitVec.ofNat 16 j ≠ s.main.de + BitVec.ofNat 16 k := by decide

theorem witness_BlockSearch : (sample.main.bc ≠ 1 ∧ State.reset.main.bc ≠ 1) ∧ sample.main.a = sample.peek sample.main.hl ∧
    (let s := { sample with main := bank 0 1 0 0x9000 }; s.main.bc = 1 ∧ s.main.a ≠ s.peek s.main.hl) ∧
    (let s := { sample with main := bank 0 0 0 0x9000 }; s.main.bc ≠ 1 ∧ s.main.a ≠ s.peek s.main.hl) := by decide

theorem witness_BlockInputOutput :
    let done (s : State) : Prop := s.main.b = 1 ∧ (s.params.ioBlockRepeatOnBc = true → s.main.c = 0)
    let other (s : State) : State := { s with params := { s.params with ioBlockRepeatOnBc := false } }
    sample.mem.wf = true ∧ ¬done sample ∧ done (other sample) ∧ done { sample with main := bank 0 0x0100 0 0 } ∧
      ¬done { sample with main := bank 0 0 0 0 } := by
  dsimp only
  decide

theorem witness_IndexLoads : sample.mem.wf = true := by decide

end Sys2Proof.Tests
end

section
/-! One rule per operation of the machine for the frame `Changed` of Safety.lean, and the rule that puts two of them one after the other;
with them 00_scope.md R11, the stack primitives. -/

namespace Sys2Proof.Machine

/-! ### What two runs of bus operations do, one after the other -/

theorem wrote_append (ops ops' : List BusOp) (a : Word) :
    wrote (ops ++ ops') a = (wrote ops' a).or (wrote ops a) := by
  induction ops with
  | nil => simp [wrote]
  | cons op ops ih => cases op <;> simp [wrote, ih, Option.or_assoc]

theorem answersTaken_append (p : Config.Params) (ops ops' : List BusOp) :
    answersTaken p (ops ++ ops') = answersTaken p ops + answersTaken p ops' := by
  induction ops with
  | nil => simp [answersTaken]
  | cons op ops ih => cases op <;> simp [answersTaken, ih] <;> omega

/-! ### The frame: composition and weakening -/

theorem SameSlots.trans {ws ws' : List Slot} {s t u : State} (h : SameSlots ws s t) (h' : SameSlots ws' t u) :
    SameSlots (ws ++ ws') s u := by
  intro x hx
  obtain ⟨hw, hw'⟩ := not_or.mp (hx ∘ List.mem_append.mpr)
  exact (h' x hw').trans (h x hw)

theorem SameSlots.mono {ws ws' : List Slot} {s t : State} (h : SameSlots ws s t) (hw : ws ⊆ ws') : SameSlots ws' s t :=
  fun x hx => h x (hx ∘ (hw ·))

theorem SameHost.trans {s t u : State} (h : SameHost s t) (h' : SameHost t u) : SameHost s u := by
  obtain ⟨hp, hs, hr, hf⟩ := h
  obtain ⟨hp', hs', hr', hf'⟩ := h'
  exact ⟨hp'.trans hp, hs'.trans hs, hr'.trans hr, hf'.trans hf⟩

/-- The memory map is the parameters', so what the second part leaves at an address of RAM is on top of what the first one left. -/
theorem Changed.trans {ws ws' : List Slot} {ops ops' : List BusOp} {s t u : State} (h : Changed ws ops s t)
    (h' : Changed ws' ops' t u) : Changed (ws ++ ws') (ops ++ ops') s u := by
  obtain ⟨hslot, hhost, hbus, hpeek, hans⟩ := h
  obtain ⟨hslot', hhost', hbus', hpeek', hans'⟩ := h'
  have hp : t.params = s.params := hhost.1
  refine ⟨hslot.trans hslot', hhost.trans hhost', ?bus, ?peek, ?answers⟩
  case bus => rw [hbus', hbus, List.reverse_append, List.append_assoc]
  case peek =>
    intro a ha
    rw [hpeek' a ((isDevice_of_params_eq hp a).trans ha), hpeek a ha, writable_of_params_eq hp, wrote_append]
    split
    · cases wrote ops' a <;> rfl
    · rfl
  case answers => rw [hans', hans, hp, List.drop_drop, answersTaken_append]

theorem Changed.mono {ws ws' : List Slot} {ops : List BusOp} {s t : State} (h : Changed ws ops s t) (hw : ws ⊆ ws') :
    Changed ws' ops s t :=
  ⟨h.1.mono hw, h.2⟩

/-! ### The frame of each operation -/

/-- An update of slots alone: memory, the bus and the host's side stay. -/
theorem changed_of_sameSlots {ws : List Slot} {s t : State} (hslot : SameSlots ws s t) (hhost : SameHost s t) (hmem : t.mem = s.mem)
    (hbus : t.bus = s.bus) (hans : t.hostAnswers = s.hostAnswers) : Changed ws [] s t :=
  ⟨hslot, hhost, hbus, fun a _ => by simp [peek_of_eq hmem hhost.1 hbus hans, wrote], hans⟩

theorem changed_setSp (s : State) (v : Word) : Changed [.sp] [] s (s.setSp v) := by
  refine changed_of_sameSlots ?_ ⟨rfl, rfl, rfl, rfl⟩ rfl rfl rfl
  intro x hx
  cases x with
  | sp => exact absurd (List.mem_singleton.mpr rfl) hx
  | _ => rfl

theorem changed_memRead (s : State) (a : Word) : Changed [] [.memRead a (s.peek a)] s (s.memRead a).2 := by
  refine ⟨fun x _ => by cases x <;> rfl, ⟨rfl, rfl, rfl, rfl⟩, rfl, ?peek, ?answers⟩
  case peek =>
    intro b hb
    rw [peek_of_mem_eq (memRead_mem s a) rfl hb]
    simp [wrote]
  case answers =>
    by_cases ha : s.params.kindAt a = .device <;>
      simp [State.answersAfter, State.isDevice, State.kindAt, answersTaken, ha]

theorem changed_memWrite (s : State) (a : Word) (v : Byte) (hwf : s.mem.wf = true) :
    Changed [] [.memWrite a v] s (s.memWrite a v) := by
  refine ⟨fun x _ => by cases x <;> rfl, ⟨rfl, rfl, rfl, rfl⟩, rfl, ?peek, rfl⟩
  intro b hb
  rw [memWrite_peek s a b v hwf hb]
  by_cases hab : a = b
  · subst hab
    simp [wrote]
  · simp [wrote, hab]

/-! ### The stack (00_scope.md R11) -/

/-- A push is two times `SP - 1` and a store there. -/
theorem changed_push16 (s : State) (v : Word) (hwf : s.mem.wf = true) : Changed [.sp] (pushOps s v) s (s.push16 v) := by
  have hsp : s.sp - 1 - 1 = s.sp - 2 := BitVec.sub_sub ..
  have high := (changed_setSp s (s.sp - 1)).trans (changed_memWrite _ (s.sp - 1) (wordHi v) hwf)
  have low := (changed_setSp ((s.setSp (s.sp - 1)).memWrite (s.sp - 1) (wordHi v)) (s.sp - 1 - 1)).trans
    (changed_memWrite _ (s.sp - 1 - 1) (wordLo v) (memWrite_wf (s.setSp (s.sp - 1)) (s.sp - 1) (wordHi v) hwf))
  rw [pushOps, ← hsp]
  exact (high.trans low).mono (by simp)

/-- A pop is two times a read at `SP` and `SP + 1`. -/
theorem changed_pop16 (s : State) : Changed [.sp] (read16Ops s s.sp) s s.pop16.2 := by
  have low := (changed_memRead s s.sp).trans (changed_setSp _ (s.sp + 1))
  have high := (changed_memRead ((s.memRead s.sp).2.setSp (s.sp + 1)) (s.sp + 1)).trans (changed_setSp _ (s.sp + 1 + 1))
  exact (low.trans high).mono (by simp)

@[simp] theorem push16_sp (s : State) (v : Word) : (s.push16 v).sp = s.sp - 2 := by rw [push16_eq]

@[simp] theorem pop16_sp (s : State) : s.pop16.2.sp = s.sp + 2 := by rw [pop16_eq]

@[simp] theorem pop16_value (s : State) : s.pop16.1 = s.word s.sp := by rw [pop16_eq]

/-- Settles O23: the frames of a push and a pop, put together from those of their reads and stores. -/
theorem stackPrimitives : Obligations.StackPrimitives :=
  fun s => ⟨fun v hwf => ⟨changed_push16 s v hwf, push16_sp s v⟩, changed_pop16 s, pop16_sp s, pop16_value s⟩

/-! ### Parity (00_scope.md R12) -/

theorem popCount_eq_length_filter (v : Byte) : popCount v = ((List.range 8).filter fun k => v.getLsbD k).length := by
  have hrange : List.range 8 = [0, 1, 2, 3, 4, 5, 6, 7] := rfl
  have hbit (b : Bool) : b.toNat = if b = true then 1 else 0 := by cases b <;> rfl
  rw [← List.countP_eq_length_filter, hrange]
  simp only [List.countP_cons, List.countP_nil, popCount, hbit]
  omega

theorem parity_eq_true_iff (v : Byte) : parity v = true ↔ EvenOnes v := by
  rw [parity, EvenOnes, popCount_eq_length_filter, beq_iff_eq]

/-- Settles O21: the model's count is the length of the list of 1 bits. -/
theorem parityIsAnEvenCountOfOnes : Obligations.ParityIsAnEvenCountOfOnes :=
  ⟨parity_eq_true_iff, by decide, by decide, by decide, by decide⟩

end Sys2Proof.Machine
end

section
/-! What the state and its special registers are for an instruction (10_state.md): the layout of `F` (R27), `reset()` (R48), who writes a
special register (R31 to R36), the delayed `EI` and `DI` (R36), and what an instruction cannot see: `IX` and `IY` (R22), the shadow bank
(R21), `cyc` (R37), the flags `X` and `Y` (R29). -/

namespace Sys2Proof.Machine

/-! ### Outcomes of a branch -/

theorem Safe.ite {b : Bool} {o o' : Out} (h : Safe o) (h' : Safe o') : Safe (if b then o else o') := by
  cases b
  · exact h'
  · exact h

/-- Both sides of a branch commute with `f`, so the branch does. -/
theorem ite_eq_onNext {f : State → State} {b : Bool} {a a' o o' : Out} (h : a = onNext f o) (h' : a' = onNext f o') :
    (if b then a else a') = onNext f (if b then o else o') := by
  cases b
  · exact h'
  · exact h

theorem onNext_ite_congr {d : State → State} {b : Bool} {a a' o o' : Out} (h : onNext d a = onNext d o)
    (h' : onNext d a' = onNext d o') : onNext d (if b then a else a') = onNext d (if b then o else o') := by
  cases b
  · exact h'
  · exact h

/-- The two ends of a block instruction, `retire` and `repeatUnless`, after a body that commutes with `f`. -/
theorem retire_eq_onNext {f : State → State} {t t' : State} (h : t' = f t) (len : Word)
    (hf : ∀ t, retire len (f t) = onNext f (retire len t)) : retire len t' = onNext f (retire len t) := by
  rw [h, hf]

theorem repeat_eq_onNext {f : State → State} {t t' : State} (h : t' = f t) (done : State → Bool)
    (hdone : ∀ t, done (f t) = done t) (hf : ∀ b t, repeatUnless b (f t) = onNext f (repeatUnless b t)) :
    repeatUnless (done t') t' = onNext f (repeatUnless (done t) t) := by
  rw [h, hdone, hf]

/-- No instruction stops the machine (60_exceptions.md R540). -/
theorem exec_safe (i : Instr) (s : State) : Safe (exec i s) := by
  cases i with
  | jrCc | djnz | retCc | jpCcNn | callCcNn | ldir | lddr | cpir | cpdr | inir | indr | otir | otdr =>
    exact Safe.ite ⟨_, rfl⟩ ⟨_, rfl⟩
  | _ => exact ⟨_, rfl⟩

/-! ### The step as the host's next call -/

theorem step_of_schedule_nil {s : State} (h : s.schedule = []) : step s = stepInstruction s := by
  simp only [step, performNext, h]

theorem step_of_schedule_cons {s : State} {call : HostCall} {rest : List HostCall} (h : s.schedule = call :: rest) :
    step s = perform call { s with schedule := rest } := by
  simp only [step, performNext, h]

theorem stepInstruction_of_halted {s : State} (h : s.halted = true) : stepInstruction s = .next { s with stepReturn := 1 } := by
  rw [stepInstruction, if_pos h]

theorem stepInstruction_of_running {s : State} (h : s.halted = false) :
    stepInstruction s = onNext (·.finishStep s.pendingDi s.pendingEi) (exec s.nextInstr s.fetched) := by
  rw [stepInstruction, if_neg (by simp [h])]
  rfl

@[simp] theorem finishStep_pendingDi (s : State) (di ei : Bool) : (s.finishStep di ei).pendingDi = s.pendingDi := by
  cases di <;> cases ei <;> rfl

@[simp] theorem finishStep_pendingEi (s : State) (di ei : Bool) : (s.finishStep di ei).pendingEi = s.pendingEi := by
  cases di <;> cases ei <;> rfl

/-! ### The layout of `F` (10_state.md R27) and `reset()` (R48) -/

/-- Settles O22: reading back a packed byte gives each flag from its bit. -/
theorem flagByteLayout : Obligations.FlagByteLayout := by
  refine ⟨fun g => ?_, pack_unpack, fun s g => ⟨unpack_pack g, rfl⟩⟩
  have h : unpackFlags g.pack = g := unpack_pack g
  exact ⟨congrArg Flags.s h, congrArg Flags.z h, congrArg Flags.y h, congrArg Flags.h h, congrArg Flags.x h,
    congrArg Flags.p h, congrArg Flags.n h, congrArg Flags.c h⟩

theorem sameSlots_resetPort (s : State) :
    SameSlots ([.sp, .pc, .a, .r, .im, .iff1, .iff2, .halted, .pendingDi, .pendingEi, .cyc] ++ allFlags) s (resetPort s) := by
  intro x hx
  cases x with
  | sp | pc | a | r | im | iff1 | iff2 | halted | pendingDi | pendingEi | cyc | fS | fZ | fY | fH | fX | fP | fN | fC =>
    simp [allFlags] at hx
  | _ => rfl

/-- Settles O24: the step is the `reset` port, whose writes are constants. -/
theorem resetWritesExactlyThis : Obligations.ResetWritesExactlyThis := by
  intro s calls hcalls
  refine ⟨resetPort { s with schedule := calls }, step_of_schedule_cons hcalls, sameSlots_resetPort _, ?_⟩
  simp [resetPort]

/-! ### The special registers (10_state.md R21, R31 to R36)

One case analysis serves both directions: an instruction that has no business with the special registers does the same whatever they
hold. With the values they do hold in place of others, that says that it keeps them. -/

/-- `s` with the special registers of `u`: `I`, `R`, the interrupt state, the pending flags and the shadow bank. -/
def withSpecial (u s : State) : State :=
  { s with
      i := u.i, r := u.r, iff1 := u.iff1, iff2 := u.iff2, im := u.im, halted := u.halted
      pendingDi := u.pendingDi, pendingEi := u.pendingEi, shadow := u.shadow }

/-- The instructions that read or write a special register. -/
def usesSpecial : Instr → Bool
  | .ldIA | .ldAI | .ldRefreshA | .ldARefresh | .retn _ | .im0 _ | .im1 _ | .im2 _ | .halt | .di | .ei | .exAfAf | .exx => true
  | _ => false

theorem exec_withSpecial {i : Instr} (hi : usesSpecial i = false) (s u : State) :
    exec i (withSpecial u s) = onNext (withSpecial u) (exec i s) := by
  have hload (delta : Word) : blockLoad delta (withSpecial u s) = withSpecial u (blockLoad delta s) := rfl
  have hcompare (delta : Word) : blockCompare delta (withSpecial u s) = withSpecial u (blockCompare delta s) := rfl
  have hrepeat (b : Bool) (t : State) : repeatUnless b (withSpecial u t) = onNext (withSpecial u) (repeatUnless b t) :=
    ite_eq_onNext rfl rfl
  cases i with
  | ldIA | ldAI | ldRefreshA | ldARefresh | retn | im0 | im1 | im2 | halt | di | ei | exAfAf | exx => cases hi
  | ldDdNn p | incSs p | decSs p | ldDdIndNn p | popQq p => cases p <;> rfl
  | ldi | ldd => exact retire_eq_onNext (hload _) 2 fun _ => rfl
  | cpi | cpd => exact retire_eq_onNext (hcompare _) 2 fun _ => rfl
  | ldir | lddr => exact repeat_eq_onNext (hload _) (·.main.bc == 0) (fun _ => rfl) hrepeat
  | cpir | cpdr => exact repeat_eq_onNext (hcompare _) (fun t => t.main.bc == 0 || t.flags.z) (fun _ => rfl) hrepeat
  | inir | indr | otir | otdr | jrCc | djnz | retCc | jpCcNn | callCcNn => exact ite_eq_onNext rfl rfl
  | _ => rfl

theorem exec_keepsSpecial {i : Instr} (hi : usesSpecial i = false) {s t : State} (ht : exec i s = .next t) :
    t = withSpecial s t := by
  have h : exec i s = onNext (withSpecial s) (exec i s) := exec_withSpecial hi s s
  rw [ht] at h
  exact Host.Outcome.next.inj h

/-- Settles O13: thirteen instructions use a special register, and each of them writes at most its own. -/
theorem specialRegistersHaveOneWriter : Obligations.SpecialRegistersHaveOneWriter := by
  intro i s t ht
  cases hi : usesSpecial i with
  | true =>
    cases i with
    | ldIA | ldAI | ldRefreshA | ldARefresh | retn | im0 | im1 | im2 | halt | di | ei =>
      cases ht
      simp [loadASpecial, pop16_eq]
    | exAfAf | exx =>
      cases ht
      simp [exchangeAf, exchangeBanks]
    | _ => cases hi
  | false =>
    rw [exec_keepsSpecial hi ht]
    simp [withSpecial]

/-- Settles O15: an instruction that uses another special register does not touch the shadow bank either. -/
theorem shadowBankIsIsolated : Obligations.ShadowBankIsIsolated := by
  intro i s b haf hbanks
  cases hi : usesSpecial i with
  | true =>
    cases i with
    | exAfAf => exact absurd rfl haf
    | exx => exact absurd rfl hbanks
    | ldIA | ldAI | ldRefreshA | ldARefresh | retn | im0 | im1 | im2 | halt | di | ei => rfl
    | _ => cases hi
  | false =>
    obtain ⟨t, ht⟩ := exec_safe i s
    have hkeep : t = withSpecial s t := exec_keepsSpecial hi ht
    calc exec i { s with shadow := b }
      _ = onNext (withSpecial { s with shadow := b }) (exec i s) := exec_withSpecial hi s { s with shadow := b }
      _ = .next { withSpecial s t with shadow := b } := by rw [ht]; rfl
      _ = onNext (fun t => { t with shadow := b }) (exec i s) := by rw [← hkeep, ht]; rfl

/-! ### The delayed `EI` and `DI` (10_state.md R36; 40_fetch_decode.md R138) -/

theorem exec_pendingDi_iff {i : Instr} {s t : State} (ht : exec i s = .next t) (hs : s.pendingDi = false) :
    t.pendingDi = true ↔ i = .di := by
  constructor
  · intro h
    by_contra hi
    obtain ⟨-, -, -, -, -, -, hkeep, -⟩ := specialRegistersHaveOneWriter i s t ht
    simp [hkeep hi, hs] at h
  · rintro rfl
    cases ht
    rfl

theorem exec_pendingEi_iff {i : Instr} {s t : State} (ht : exec i s = .next t) (hs : s.pendingEi = false) :
    t.pendingEi = true ↔ i = .ei := by
  constructor
  · intro h
    by_contra hi
    obtain ⟨-, -, -, -, -, -, -, hkeep, -⟩ := specialRegistersHaveOneWriter i s t ht
    simp [hkeep hi, hs] at h
  · rintro rfl
    cases ht
    rfl

/-- Settles O11: the fetch clears the pending flags, so after the instruction they are its own; the commit comes last. -/
theorem delayedEnableAndDisable : Obligations.DelayedEnableAndDisable := by
  intro s hrun hcalls
  obtain ⟨u, hu⟩ := exec_safe s.nextInstr s.fetched
  have hstep : step s = .next (u.finishStep s.pendingDi s.pendingEi) := by
    rw [step_of_schedule_nil hcalls, stepInstruction_of_running hrun, hu]
    rfl
  obtain ⟨-, -, hiff1, hiff2, -⟩ := specialRegistersHaveOneWriter _ _ _ hu
  rw [fetched_eq] at hiff1 hiff2
  refine ⟨_, hstep, ?ei, ?di, ?both, ?none, ?pendingDi, ?pendingEi⟩
  case ei =>
    intro hei hdi
    simp [hei, hdi, finishStep_eq]
  case di =>
    intro hdi hei
    simp [hei, hdi, finishStep_eq]
  case both =>
    intro hdi hei
    simp [hei, hdi, finishStep_eq, commit_both]
  case none =>
    intro hdi hei
    rw [hdi, hei]
    exact ⟨hiff2, hiff1⟩
  case pendingDi =>
    rw [finishStep_pendingDi]
    exact exec_pendingDi_iff hu (by rw [fetched_eq])
  case pendingEi =>
    rw [finishStep_pendingEi]
    exact exec_pendingEi_iff hu (by rw [fetched_eq])

/-! ### Only prefixed instructions see `IX` and `IY` (10_state.md R22) -/

/-- `s` with other index registers. -/
def withIndex (v w : Word) (s : State) : State := { s with ix := v, iy := w }

/-- Settles O14: the encoding's first byte leaves the unprefixed constructors, and none of their meanings mentions `IX` or `IY`. -/
theorem indexRegistersNeedAPrefix : Obligations.IndexRegistersNeedAPrefix := by
  intro i s v w h
  have hload (delta : Word) : blockLoad delta (withIndex v w s) = withIndex v w (blockLoad delta s) := rfl
  have hcompare (delta : Word) : blockCompare delta (withIndex v w s) = withIndex v w (blockCompare delta s) := rfl
  have hrepeat (b : Bool) (t : State) : repeatUnless b (withIndex v w t) = onNext (withIndex v w) (repeatUnless b t) :=
    ite_eq_onNext rfl rfl
  cases i <;> simp [indexPrefixed, encode] at h
  case ldDdNn p _ | incSs p | decSs p | ldDdIndNn p _ | popQq p => cases p <;> rfl
  case ldi | ldd => exact retire_eq_onNext (hload _) 2 fun _ => rfl
  case cpi | cpd => exact retire_eq_onNext (hcompare _) 2 fun _ => rfl
  case ldir | lddr => exact repeat_eq_onNext (hload _) (·.main.bc == 0) (fun _ => rfl) hrepeat
  case cpir | cpdr => exact repeat_eq_onNext (hcompare _) (fun t => t.main.bc == 0 || t.flags.z) (fun _ => rfl) hrepeat
  case inir | indr | otir | otdr | jrCc | djnz | retCc | jpCcNn | callCcNn => exact ite_eq_onNext rfl rfl
  all_goals rfl

end Sys2Proof.Machine
end

section
/-! Meanings that do not see what a projection `d` of the state forgets. The first use: `cyc` and the returned count, in every call of the
host (10_state.md R37). -/

namespace Sys2Proof.Machine

/-! ### Blindness -/

/-- What `d` forgets of the state before `m` makes no difference to what `d` keeps of the state after it. -/
def Blind (d : State → State) (m : State → Out) : Prop := ∀ s, onNext d (m (d s)) = onNext d (m s)

theorem Blind.congr {d : State → State} {m : State → Out} (h : Blind d m) {s t : State} (hst : d s = d t) :
    onNext d (m s) = onNext d (m t) := by
  rw [← h s, hst, h t]

/-- What commutes with `d` is the same under `d`. -/
theorem onNext_of_commutes {d : State → State} (hd : ∀ t, d (d t) = d t) {o o' : Out} (h : o' = onNext d o) :
    onNext d o' = onNext d o := by
  subst h
  cases o with
  | next t => exact congrArg Host.Outcome.next (hd t)
  | fault | refused => rfl

/-- What is the same under `d` stays so under what follows it, if that reads nothing `d` forgets. -/
theorem onNext_onNext_congr {d g : State → State} (hg : ∀ t, d (g (d t)) = d (g t)) {o o' : Out}
    (h : onNext d o' = onNext d o) : onNext d (onNext g o') = onNext d (onNext g o) := by
  have key (o : Out) : onNext d (onNext g (onNext d o)) = onNext d (onNext g o) := by
    cases o with
    | next t => exact congrArg Host.Outcome.next (hg t)
    | fault | refused => rfl
  rw [← key o', h, key o]

/-! ### `cyc` is output only (10_state.md R37) -/

theorem dropCyc_dropCyc (s : State) : s.dropCyc.dropCyc = s.dropCyc := rfl

theorem retire_dropCyc {t t' : State} (len : Word) (h : t' = t.dropCyc) :
    onNext State.dropCyc (retire len t') = onNext State.dropCyc (retire len t) := by
  subst h
  rfl

theorem repeat_dropCyc {t t' : State} (done : State → Bool) (h : t' = t.dropCyc) (hdone : ∀ t, done t.dropCyc = done t) :
    onNext State.dropCyc (repeatUnless (done t') t') = onNext State.dropCyc (repeatUnless (done t) t) := by
  subst h
  rw [hdone]
  exact onNext_ite_congr rfl rfl

/-- Only the branches add T-states; everything else commutes with dropping them. -/
theorem exec_blind_dropCyc (i : Instr) : Blind State.dropCyc (exec i) := by
  intro s
  have hload (delta : Word) : blockLoad delta s.dropCyc = (blockLoad delta s).dropCyc := rfl
  have hcompare (delta : Word) : blockCompare delta s.dropCyc = (blockCompare delta s).dropCyc := rfl
  have hin (delta : Word) : blockIn delta s.dropCyc = (blockIn delta s).dropCyc := rfl
  have hout (delta : Word) : blockOut delta s.dropCyc = (blockOut delta s).dropCyc := rfl
  cases i with
  | ldDdNn p | incSs p | decSs p | ldDdIndNn p | popQq p => cases p <;> rfl
  | ldi | ldd => exact retire_dropCyc 2 (hload _)
  | cpi | cpd => exact retire_dropCyc 2 (hcompare _)
  | ldir | lddr => exact repeat_dropCyc (·.main.bc == 0) (hload _) fun _ => rfl
  | cpir | cpdr => exact repeat_dropCyc (fun t => t.main.bc == 0 || t.flags.z) (hcompare _) fun _ => rfl
  | inir | indr => exact repeat_dropCyc ioBlockDone (hin _) fun _ => rfl
  | otir | otdr => exact repeat_dropCyc ioBlockDone (hout _) fun _ => rfl
  | jrCc | djnz | retCc | jpCcNn | callCcNn => exact onNext_ite_congr rfl rfl
  | _ => exact onNext_of_commutes dropCyc_dropCyc rfl

theorem addCyc_dropCyc (n : Nat) (t : State) : (t.dropCyc.addCyc n).dropCyc = (t.addCyc n).dropCyc := rfl

theorem finishStep_dropCyc (di ei : Bool) (t : State) : (t.dropCyc.finishStep di ei).dropCyc = (t.finishStep di ei).dropCyc := by
  cases di <;> cases ei <;> rfl

theorem bumpR_dropCyc (s : State) (n : Nat) : s.dropCyc.bumpR n = (s.bumpR n).dropCyc := by
  simp only [bumpR_eq]
  rfl

theorem fetchByte_dropCyc (s : State) (a : Word) (k : Nat) : s.dropCyc.fetchByte a k = s.fetchByte a k :=
  fetchByte_of_eq (s := s) (t := s.dropCyc) rfl rfl rfl rfl a k

theorem fetchBytes_dropCyc (s : State) (a : Word) (n : Nat) : s.dropCyc.fetchBytes a n = (s.fetchBytes a n).dropCyc := by
  induction n generalizing s a with
  | zero => rfl
  | succ n ih => exact ih (s.memRead a).2 (a + 1)

theorem nextInstr_dropCyc (s : State) : s.dropCyc.nextInstr = s.nextInstr := by
  simp only [State.nextInstr, fetchByte_dropCyc]
  rfl

theorem injectedInstr_dropCyc (s : State) (data : Byte) : s.dropCyc.injectedInstr data = s.injectedInstr data := by
  simp only [State.injectedInstr, fetchByte_dropCyc]
  rfl

theorem fetched_dropCyc (s : State) : s.dropCyc.fetched.dropCyc = s.fetched.dropCyc := by
  have hcleared : { s.dropCyc with pendingDi := false, pendingEi := false } =
      State.dropCyc { s with pendingDi := false, pendingEi := false } := rfl
  simp only [State.fetched, fetchByte_dropCyc, nextInstr_dropCyc, hcleared, bumpR_dropCyc, fetchBytes_dropCyc]
  rfl

/-- What a mode-0 acceptance runs its instruction on (60_exceptions.md R546), as `State.fetched` is for a step. -/
def State.injected (s : State) (data : Byte) : State :=
  (((s.bumpR (opcodeBytes data (s.fetchByte s.pc 0) - 1)).fetchBytes s.pc ((s.injectedInstr data).bytesRead - 1)).setPc
    (s.pc - 1)).addCyc (s.injectedCost data)

theorem enterMode0_eq_onNext (data : Byte) (s : State) :
    enterMode0 data s = onNext (·.addCyc 2) (exec (s.injectedInstr data) (s.injected data)) := rfl

theorem injected_dropCyc (s : State) (data : Byte) : (s.dropCyc.injected data).dropCyc = (s.injected data).dropCyc := by
  simp only [State.injected, fetchByte_dropCyc, injectedInstr_dropCyc, bumpR_dropCyc, fetchBytes_dropCyc]
  rfl

theorem stepInstruction_blind_dropCyc : Blind State.dropCyc stepInstruction := by
  intro s
  cases h : s.halted with
  | true =>
    rw [stepInstruction_of_halted h, stepInstruction_of_halted (s := s.dropCyc) h]
    rfl
  | false =>
    rw [stepInstruction_of_running h, stepInstruction_of_running (s := s.dropCyc) h, nextInstr_dropCyc]
    exact onNext_onNext_congr (finishStep_dropCyc _ _) ((exec_blind_dropCyc _).congr (fetched_dropCyc s))

theorem enterMode0_blind_dropCyc (data : Byte) : Blind State.dropCyc (enterMode0 data) := by
  intro s
  rw [enterMode0_eq_onNext, enterMode0_eq_onNext, injectedInstr_dropCyc]
  exact onNext_onNext_congr (addCyc_dropCyc 2) ((exec_blind_dropCyc _).congr (injected_dropCyc s data))

theorem irq_blind_dropCyc (nonMaskable : Bool) (data : Byte) : Blind State.dropCyc (irq nonMaskable data) := by
  intro s
  cases nonMaskable with
  | true => rfl
  | false =>
    have hmode : (acceptMaskable s).im = s.im := by rw [acceptMaskable_eq]
    have hmode' : (acceptMaskable s.dropCyc).im = s.im := by
      rw [acceptMaskable_eq]
      rfl
    refine onNext_ite_congr (b := s.iff1) ?_ rfl
    simp only [hmode, hmode']
    cases s.im with
    | im0 => exact enterMode0_blind_dropCyc data (acceptMaskable s)
    | im1 | im2 => rfl

theorem perform_blind_dropCyc (call : HostCall) : Blind State.dropCyc (perform call) := by
  cases call with
  | stepInstruction => exact stepInstruction_blind_dropCyc
  | irq nonMaskable data => exact irq_blind_dropCyc nonMaskable data
  | reset => exact fun _ => rfl

theorem step_blind_dropCyc : Blind State.dropCyc step := by
  intro s
  cases h : s.schedule with
  | nil =>
    rw [step_of_schedule_nil h, step_of_schedule_nil (s := s.dropCyc) h]
    exact stepInstruction_blind_dropCyc s
  | cons call rest =>
    rw [step_of_schedule_cons h, step_of_schedule_cons (s := s.dropCyc) h]
    exact perform_blind_dropCyc call { s with schedule := rest }

/-- Settles O16: every call of the host is blind to `cyc` and the returned count. -/
theorem cycIsOutputOnly : Obligations.CycIsOutputOnly :=
  fun s n m => step_blind_dropCyc.congr (s := { s with cyc := n, stepReturn := m }) rfl

end Sys2Proof.Machine
end

section
/-! The flags `X` and `Y` are not read (10_state.md R29). An instruction either leaves them to themselves, and then commutes with
clearing them, or it writes them without reading them, and then clearing them first makes no difference. -/

namespace Sys2Proof.Machine

/-! ### Clearing `X` and `Y` -/

@[simp] theorem dropXY_flags (s : State) : s.dropXY.flags = { s.flags with x := false, y := false } := unpack_pack _

theorem dropXY_setFlags_xy (s : State) (x y : Bool) : (s.setFlags { s.flags with x := x, y := y }).dropXY = s.dropXY := by
  have h : (s.setFlags { s.flags with x := x, y := y }).flags = { s.flags with x := x, y := y } := unpack_pack _
  rw [State.dropXY, h]
  rfl

theorem dropXY_dropXY (s : State) : s.dropXY.dropXY = s.dropXY := dropXY_setFlags_xy s false false

/-- No condition code names `X` or `Y` (30_encoding.md R96). -/
theorem cond_dropXY (s : State) (cc : Cond) : s.dropXY.cond cc = s.cond cc := by
  cases cc <;> simp [State.cond]

/-! ### Operations that leave `X` and `Y` to themselves -/

theorem setReg_dropXY (r : Reg8) (v : Byte) (s : State) : s.dropXY.setReg r v = (s.setReg r v).dropXY := by
  cases r <;> rfl

theorem setPair_dropXY (p : Pair) (v : Word) (s : State) : s.dropXY.setPair p v = (s.setPair p v).dropXY := by
  cases p <;> rfl

theorem setIdx_dropXY (x : Index) (v : Word) (s : State) : s.dropXY.setIdx x v = (s.setIdx x v).dropXY := by
  cases x <;> rfl

theorem loadReg_dropXY (r : Reg8) (ea : Word) (s : State) : loadReg r ea s.dropXY = (loadReg r ea s).dropXY :=
  setReg_dropXY r (s.peek ea) (s.memRead ea).2

theorem modifyMem_dropXY (f : Byte → Byte) (ea : Word) (copy : Option Reg8) (s : State) :
    modifyMem f ea copy s.dropXY = (modifyMem f ea copy s).dropXY := by
  cases copy with
  | none => rfl
  | some r => exact setReg_dropXY r (f (s.peek ea)) ((s.memRead ea).2.memWrite ea (f (s.peek ea)))

theorem push16_dropXY (v : Word) (s : State) : s.dropXY.push16 v = (s.push16 v).dropXY := rfl

theorem pop16_dropXY (s : State) : s.dropXY.pop16 = (s.pop16.1, s.pop16.2.dropXY) := rfl

theorem exchangeTop_dropXY (v : Word) (s : State) :
    exchangeTop v s.dropXY = ((exchangeTop v s).1, (exchangeTop v s).2.dropXY) := rfl

theorem call_dropXY (len target : Word) (s : State) : call len target s.dropXY = onNext State.dropXY (call len target s) :=
  congrArg (jump target) (push16_dropXY (s.pc + len) s)

theorem popPc_dropXY (s : State) : popPc s.dropXY = onNext State.dropXY (popPc s) := by
  simp only [popPc, pop16_dropXY]
  rfl

theorem returnFromInt_dropXY (restore : Bool) (s : State) :
    returnFromInt restore s.dropXY = onNext State.dropXY (returnFromInt restore s) := by
  simp only [returnFromInt, pop16_dropXY]
  rfl

/-! ### Operations that write `X` and `Y` without reading them -/

/-- A kernel that does not read the flags `X` and `Y`. -/
def IgnoresXY {α : Type} (k : Flags → α) : Prop := ∀ g, k { g with x := false, y := false } = k g

theorem IgnoresXY.flags_dropXY {α : Type} {k : Flags → α} (hk : IgnoresXY k) (s : State) : k s.dropXY.flags = k s.flags := by
  rw [dropXY_flags, hk]

theorem inc8_ignoresXY (v : Byte) : IgnoresXY (inc8 v) := fun _ => rfl

theorem dec8_ignoresXY (v : Byte) : IgnoresXY (dec8 v) := fun _ => rfl

theorem setFlags_dropXY {k : Flags → Flags} (hk : IgnoresXY k) (s : State) :
    s.dropXY.setFlags (k s.dropXY.flags) = s.setFlags (k s.flags) := by
  rw [hk.flags_dropXY]
  rfl

theorem setAF_dropXY {k : Flags → Byte × Flags} (hk : IgnoresXY k) (s : State) :
    s.dropXY.setAF (k s.dropXY.flags) = s.setAF (k s.flags) := by
  rw [hk.flags_dropXY]
  rfl

theorem setReg_setFlags_dropXY {k : Flags → Byte × Flags} (hk : IgnoresXY k) (r : Reg8) (s : State) :
    (s.dropXY.setReg r (k s.dropXY.flags).1).setFlags (k s.dropXY.flags).2 =
      (s.setReg r (k s.flags).1).setFlags (k s.flags).2 := by
  rw [hk.flags_dropXY]
  cases r <;> rfl

theorem setHl_setFlags_dropXY {k : Flags → Word × Flags} (hk : IgnoresXY k) (s : State) :
    (s.dropXY.setPair .hl (k s.dropXY.flags).1).setFlags (k s.dropXY.flags).2 =
      (s.setPair .hl (k s.flags).1).setFlags (k s.flags).2 := by
  rw [hk.flags_dropXY]
  rfl

theorem aluA_dropXY (op : AluOp) (x : Byte) (s : State) : aluA op x s.dropXY = aluA op x s := by
  cases op <;> simp only [aluA, dropXY_flags] <;> rfl

theorem aluMem_dropXY (op : AluOp) (ea : Word) (s : State) : aluMem op ea s.dropXY = aluMem op ea s :=
  aluA_dropXY op (s.peek ea) (s.memRead ea).2

theorem updateMem_dropXY {k : Byte → Flags → Byte × Flags} (hk : ∀ v, IgnoresXY (k v)) (ea : Word) (s : State) :
    updateMem k ea s.dropXY = updateMem k ea s := by
  simp only [updateMem, (hk _).flags_dropXY]
  rfl

theorem updateHalf_dropXY {k : Byte → Flags → Byte × Flags} (hk : ∀ v, IgnoresXY (k v)) (x : Index) (h : Half) (s : State) :
    updateHalf k x h s.dropXY = updateHalf k x h s := by
  simp only [updateHalf, (hk _).flags_dropXY]
  cases x <;> cases h <;> rfl

theorem addIndex_dropXY (x : Index) (pp : PairX) (s : State) : addIndex x pp s.dropXY = addIndex x pp s := by
  simp only [addIndex, dropXY_flags]
  cases x <;> rfl

theorem shiftReg_dropXY (k : ShiftKind) (r : Reg8) (s : State) : shiftReg k r s.dropXY = shiftReg k r s := by
  simp only [shiftReg, dropXY_flags]
  cases r <;> rfl

theorem shiftMem_dropXY (k : ShiftKind) (ea : Word) (copy : Option Reg8) (s : State) :
    shiftMem k ea copy s.dropXY = shiftMem k ea copy s := by
  simp only [shiftMem, dropXY_flags]
  rfl

theorem rotateA_dropXY (k : ShiftKind) (s : State) : rotateA k s.dropXY = rotateA k s := by
  simp only [rotateA, dropXY_flags]
  rfl

theorem bitTestMem_dropXY (n : Field3) (ea : Word) (s : State) : bitTestMem n ea s.dropXY = bitTestMem n ea s := by
  simp only [bitTestMem, dropXY_flags]
  rfl

theorem nibbleRotate_dropXY (f : Byte → Byte → Byte × Byte) (s : State) : nibbleRotate f s.dropXY = nibbleRotate f s := by
  simp only [nibbleRotate, dropXY_flags]
  rfl

theorem loadASpecial_dropXY (v : Byte) (s : State) : loadASpecial v s.dropXY = loadASpecial v s := by
  simp only [loadASpecial, dropXY_flags]
  rfl

theorem blockLoad_dropXY (delta : Word) (s : State) : blockLoad delta s.dropXY = blockLoad delta s := by
  simp only [blockLoad, dropXY_flags]
  rfl

theorem blockCompare_dropXY (delta : Word) (s : State) : blockCompare delta s.dropXY = blockCompare delta s := by
  simp only [blockCompare, dropXY_flags]
  rfl

theorem blockIoEnd_dropXY (delta : Word) (s : State) : blockIoEnd delta s.dropXY = blockIoEnd delta s := by
  simp only [blockIoEnd, dropXY_flags]
  rfl

theorem blockIn_dropXY (delta : Word) (s : State) : blockIn delta s.dropXY = blockIn delta s :=
  blockIoEnd_dropXY delta ((s.ioRead s.main.bc).2.memWrite s.main.hl (s.ioAnswer s.main.bc))

theorem blockOut_dropXY (delta : Word) (s : State) : blockOut delta s.dropXY = blockOut delta s :=
  blockIoEnd_dropXY delta ((s.memRead s.main.hl).2.ioWrite s.main.bc (s.peek s.main.hl))

/-! ### How an instruction ends, after an operation of either kind -/

theorem retire_written {t t' : State} (len : Word) (h : t' = t) :
    onNext State.dropXY (retire len t') = onNext State.dropXY (retire len t) := by
  rw [h]

theorem retire_kept {t t' : State} (len : Word) (h : t' = t.dropXY) :
    onNext State.dropXY (retire len t') = onNext State.dropXY (retire len t) := by
  subst h
  exact onNext_of_commutes dropXY_dropXY rfl

theorem repeat_written {t t' : State} (done : State → Bool) (h : t' = t) :
    onNext State.dropXY (repeatUnless (done t') t') = onNext State.dropXY (repeatUnless (done t) t) := by
  rw [h]

theorem branch_kept (cc : Cond) {s : State} {a a' o o' : Out} (h : a = onNext State.dropXY o) (h' : a' = onNext State.dropXY o') :
    onNext State.dropXY (if s.dropXY.cond cc then a else a') = onNext State.dropXY (if s.cond cc then o else o') := by
  rw [cond_dropXY]
  exact onNext_of_commutes dropXY_dropXY (ite_eq_onNext h h')

/-! ### Every instruction -/

theorem exec_blind_dropXY {i : Instr} (hpush : i ≠ .pushQq .af) (hex : i ≠ .exAfAf) : Blind State.dropXY (exec i) := by
  intro s
  cases i with
  | exAfAf => exact absurd rfl hex
  | pushQq p =>
    cases p with
    | af => exact absurd rfl hpush
    | bc | de | hl => exact onNext_of_commutes dropXY_dropXY rfl
  | popQq p =>
    cases p with
    | af => rfl
    | bc | de | hl => exact onNext_of_commutes dropXY_dropXY rfl
  -- the accumulator operations
  | addAR | addAN | adcAR | adcAN | subR | subN | sbcAR | sbcAN | andR | andN | xorR | xorN | orR | orN | cpR | cpN
  | addAIxh | addAIxl | adcAIxh | adcAIxl | subIxh | subIxl | sbcAIxh | sbcAIxl
  | andIxh | andIxl | xorIxh | xorIxl | orIxh | orIxl | cpIxh | cpIxl
  | addAIyh | addAIyl | adcAIyh | adcAIyl | subIyh | subIyl | sbcAIyh | sbcAIyl
  | andIyh | andIyl | xorIyh | xorIyl | orIyh | orIyl | cpIyh | cpIyl => exact retire_written _ (aluA_dropXY _ _ s)
  | addAIndHl | adcAIndHl | subIndHl | sbcAIndHl | andIndHl | xorIndHl | orIndHl | cpIndHl
  | addAIndIxd | adcAIndIxd | subIndIxd | sbcAIndIxd | andIndIxd | xorIndIxd | orIndIxd | cpIndIxd
  | addAIndIyd | adcAIndIyd | subIndIyd | sbcAIndIyd | andIndIyd | xorIndIyd | orIndIyd | cpIndIyd =>
    exact retire_written _ (aluMem_dropXY _ _ s)
  | daa => exact retire_written 1 (setAF_dropXY (k := daa8 s.main.a) (fun _ => rfl) s)
  | cpl => exact retire_written 1 (setAF_dropXY (k := cplA s.main.a) (fun _ => rfl) s)
  | neg => exact retire_written 2 (setAF_dropXY (k := fun _ => sub8 0 s.main.a false) (fun _ => rfl) s)
  | scf => exact retire_written 1 (setFlags_dropXY (k := scfFlags s.main.a) (fun _ => rfl) s)
  | ccf => exact retire_written 1 (setFlags_dropXY (k := ccfFlags s.main.a) (fun _ => rfl) s)
  -- increments, decrements and 16-bit arithmetic
  | incR r => exact retire_written 1 (setReg_setFlags_dropXY (inc8_ignoresXY (s.reg r)) r s)
  | decR r => exact retire_written 1 (setReg_setFlags_dropXY (dec8_ignoresXY (s.reg r)) r s)
  | incIndHl | incIndIxd | incIndIyd => exact retire_written _ (updateMem_dropXY inc8_ignoresXY _ s)
  | decIndHl | decIndIxd | decIndIyd => exact retire_written _ (updateMem_dropXY dec8_ignoresXY _ s)
  | incIxh | incIxl | incIyh | incIyl => exact retire_written _ (updateHalf_dropXY inc8_ignoresXY _ _ s)
  | decIxh | decIxl | decIyh | decIyl => exact retire_written _ (updateHalf_dropXY dec8_ignoresXY _ _ s)
  | addHlSs p => exact retire_written 1 (setHl_setFlags_dropXY (k := add16 s.main.hl (s.pair p)) (fun _ => rfl) s)
  | adcHlSs p => exact retire_written 2 (setHl_setFlags_dropXY (k := (adc16 s.main.hl (s.pair p) ·.c)) (fun _ => rfl) s)
  | sbcHlSs p => exact retire_written 2 (setHl_setFlags_dropXY (k := (sbc16 s.main.hl (s.pair p) ·.c)) (fun _ => rfl) s)
  | addIxPp | addIyPp => exact retire_written _ (addIndex_dropXY _ _ s)
  -- rotates, shifts and bits
  | rlca | rrca | rla | rra => exact retire_written _ (rotateA_dropXY _ s)
  | rlcR | rrcR | rlR | rrR | slaR | sraR | sllR | srlR => exact retire_written _ (shiftReg_dropXY _ _ s)
  | rlcIndHl | rrcIndHl | rlIndHl | rrIndHl | slaIndHl | sraIndHl | sllIndHl | srlIndHl
  | rlcIndIxd | rrcIndIxd | rlIndIxd | rrIndIxd | slaIndIxd | sraIndIxd | sllIndIxd | srlIndIxd
  | rlcIndIyd | rrcIndIyd | rlIndIyd | rrIndIyd | slaIndIyd | sraIndIyd | sllIndIyd | srlIndIyd
  | rlcIndIxdR | rrcIndIxdR | rlIndIxdR | rrIndIxdR | slaIndIxdR | sraIndIxdR | sllIndIxdR | srlIndIxdR
  | rlcIndIydR | rrcIndIydR | rlIndIydR | rrIndIydR | slaIndIydR | sraIndIydR | sllIndIydR | srlIndIydR =>
    exact retire_written _ (shiftMem_dropXY _ _ _ s)
  | bitBR b r => exact retire_written 2 (setFlags_dropXY (k := bitTest b (s.reg r)) (fun _ => rfl) s)
  | bitBIndHl | bitBIndIxd | bitBIndIyd => exact retire_written _ (bitTestMem_dropXY _ _ s)
  | rld | rrd => exact retire_written _ (nibbleRotate_dropXY _ s)
  | resBR | setBR => exact retire_kept _ (setReg_dropXY _ _ s)
  | resBIndIxdR | setBIndIxdR | resBIndIydR | setBIndIydR => exact retire_kept _ (modifyMem_dropXY _ _ _ s)
  -- the block instructions
  | ldi | ldd => exact retire_written _ (blockLoad_dropXY _ s)
  | cpi | cpd => exact retire_written _ (blockCompare_dropXY _ s)
  | ini | ind => exact retire_written _ (blockIn_dropXY _ s)
  | outi | outd => exact retire_written _ (blockOut_dropXY _ s)
  | ldir | lddr => exact repeat_written (·.main.bc == 0) (blockLoad_dropXY _ s)
  | cpir | cpdr => exact repeat_written (fun t => t.main.bc == 0 || t.flags.z) (blockCompare_dropXY _ s)
  | inir | indr => exact repeat_written ioBlockDone (blockIn_dropXY _ s)
  | otir | otdr => exact repeat_written ioBlockDone (blockOut_dropXY _ s)
  -- input, and the loads from `I` and `R`
  | inRIndC r =>
    exact retire_written 2 (setReg_setFlags_dropXY (k := fun g => (s.ioAnswer s.main.bc, inFlags (s.ioAnswer s.main.bc) g))
      (fun _ => rfl) r (s.ioRead s.main.bc).2)
  | inIndC =>
    exact retire_written 2 (setFlags_dropXY (k := inFlags (s.ioAnswer s.main.bc)) (fun _ => rfl) (s.ioRead s.main.bc).2)
  | ldAI | ldARefresh => exact retire_written _ (loadASpecial_dropXY _ s)
  -- control transfers
  | jrCc cc | jpCcNn cc => exact branch_kept cc rfl rfl
  | retCc cc => exact branch_kept cc (popPc_dropXY (s.addCyc 6)) rfl
  | callCcNn cc nn => exact branch_kept cc (call_dropXY 3 nn (s.addCyc 7)) rfl
  | djnz => exact onNext_of_commutes dropXY_dropXY (ite_eq_onNext rfl rfl)
  | ret => exact onNext_of_commutes dropXY_dropXY (popPc_dropXY s)
  | reti | retn => exact onNext_of_commutes dropXY_dropXY (returnFromInt_dropXY _ s)
  | callNn | rstP => exact onNext_of_commutes dropXY_dropXY (call_dropXY _ _ s)
  -- loads, the stack and the exchanges
  | ldRN | ldRR | ldRIxh | ldRIxl | ldRIyh | ldRIyl => exact retire_kept _ (setReg_dropXY _ _ s)
  | ldRIndHl | ldRIndIxd | ldRIndIyd => exact retire_kept _ (loadReg_dropXY _ _ s)
  | ldDdNn | incSs | decSs => exact retire_kept _ (setPair_dropXY _ _ s)
  | ldDdIndNn _ nn => exact retire_kept 4 (setPair_dropXY _ _ (s.memRead16 nn).2)
  | pushIx | pushIy => exact retire_kept _ (push16_dropXY _ s)
  | popIx | popIy => exact retire_kept _ (setIdx_dropXY _ _ s.pop16.2)
  | exIndSpHl => exact retire_kept 1 (congrArg (fun m => m.2.setPair .hl m.1) (exchangeTop_dropXY s.main.hl s))
  | exIndSpIx => exact retire_kept 2 (congrArg (fun m => m.2.setIdx .ix m.1) (exchangeTop_dropXY s.ix s))
  | exIndSpIy => exact retire_kept 2 (congrArg (fun m => m.2.setIdx .iy m.1) (exchangeTop_dropXY s.iy s))
  -- the rest does not reach `F`
  | _ => exact onNext_of_commutes dropXY_dropXY rfl

/-- Settles O17: the two states are one once `X` and `Y` are cleared. -/
theorem hiddenFlagsAreNotRead : Obligations.HiddenFlagsAreNotRead :=
  fun _ s x y hpush hex => (exec_blind_dropXY hpush hex).congr (dropXY_setFlags_xy s x y)

end Sys2Proof.Machine
end

section
/-! What a call of the host can do to memory (20_memory.md R60 to R62): one relation for what stores do, then every instruction, then every
call. The canonical form, the frame of an instruction and the bytes of ROM are read off it. -/

namespace Sys2Proof.Machine

/-! ### What stores at given addresses do -/

/-- From `s` to `t` nothing is stored but at addresses of `as`: the parameters and the canonical form stay, and so does every byte
elsewhere or outside RAM (20_memory.md R62). What a device answers is the host's (R61). -/
structure StoresOnlyAt (as : List Word) (s t : State) : Prop where
  params : t.params = s.params
  wf : s.mem.wf = true → t.mem.wf = true
  peek : s.mem.wf = true → ∀ a, s.isDevice a = false → (a ∉ as ∨ s.writable a = false) → t.peek a = s.peek a

theorem storesOnlyAt_of_mem_eq {as : List Word} {s t : State} (hp : t.params = s.params) (hm : t.mem = s.mem) :
    StoresOnlyAt as s t :=
  ⟨hp, fun hwf => by rw [hm, hwf], fun _ _ ha _ => peek_of_mem_eq hm hp ha⟩

/-- The memory map is the parameters', so what both parts leave is the same. -/
theorem StoresOnlyAt.trans {as : List Word} {s t u : State} (h : StoresOnlyAt as s t) (h' : StoresOnlyAt as t u) :
    StoresOnlyAt as s u := by
  refine ⟨h'.params.trans h.params, h'.wf ∘ h.wf, fun hwf a ha hout => ?_⟩
  have hdev : t.isDevice a = false := (isDevice_of_params_eq h.params a).trans ha
  have hout' : a ∉ as ∨ t.writable a = false := by rwa [writable_of_params_eq h.params]
  exact (h'.peek (h.wf hwf) a hdev hout').trans (h.peek hwf a ha hout)

/-- Before the stores and after them anything may be done that does not touch memory. -/
theorem StoresOnlyAt.startAt {as : List Word} {r s t : State} (h : StoresOnlyAt as s t) (hp : s.params = r.params)
    (hm : s.mem = r.mem) : StoresOnlyAt as r t :=
  (storesOnlyAt_of_mem_eq hp hm).trans h

theorem StoresOnlyAt.endAt {as : List Word} {s t u : State} (h : StoresOnlyAt as s t) (hp : u.params = t.params)
    (hm : u.mem = t.mem) : StoresOnlyAt as s u :=
  h.trans (storesOnlyAt_of_mem_eq hp hm)

theorem storesOnlyAt_memWrite {as : List Word} {a : Word} (ha : a ∈ as) (s : State) (v : Byte) :
    StoresOnlyAt as s (s.memWrite a v) := by
  refine ⟨rfl, memWrite_wf s a v, fun hwf b hb hout => ?_⟩
  rw [memWrite_peek s a b v hwf hb, if_neg]
  rintro ⟨rfl, hram⟩
  cases hout with
  | inl hb => exact hb ha
  | inr hrom => simp [hram] at hrom

theorem storesOnlyAt_of_storeCell {as : List Word} {a : Word} {v : Byte} {s t : State} (hp : t.params = s.params)
    (hm : t.mem = storeCell s.params s.mem a v) (ha : a ∈ as) : StoresOnlyAt as s t :=
  (storesOnlyAt_memWrite ha s v).endAt hp hm

theorem storesOnlyAt_of_storeCell_twice {as : List Word} {a b : Word} {v w : Byte} {s t : State} (hp : t.params = s.params)
    (hm : t.mem = storeCell s.params (storeCell s.params s.mem a v) b w) (ha : a ∈ as) (hb : b ∈ as) : StoresOnlyAt as s t :=
  ((storesOnlyAt_memWrite ha s v).trans (storesOnlyAt_memWrite hb (s.memWrite a v) w)).endAt hp hm

theorem storesOnlyAt_memWrite16 (s : State) (a v : Word) : StoresOnlyAt [a, a + 1] s (s.memWrite16 a v) :=
  storesOnlyAt_of_storeCell_twice rfl rfl (by simp) (by simp)

theorem storesOnlyAt_push16 (s : State) (v : Word) : StoresOnlyAt [s.sp - 1, s.sp - 2] s (s.push16 v) := by
  rw [push16_eq]
  exact storesOnlyAt_of_storeCell_twice rfl rfl (by simp) (by simp)

theorem storesOnlyAt_exchangeTop (v : Word) (s : State) : StoresOnlyAt [s.sp, s.sp + 1] s (exchangeTop v s).2 := by
  rw [exchangeTop_eq]
  exact storesOnlyAt_of_storeCell_twice rfl rfl (by simp) (by simp)

theorem storesOnlyAt_blockLoad (delta : Word) (s : State) : StoresOnlyAt [s.main.de] s (blockLoad delta s) := by
  obtain ⟨-, -, -, -, hmem, -⟩ := blockLoad_eq delta s
  exact storesOnlyAt_of_storeCell (by simp [blockLoad]) hmem List.mem_cons_self

theorem storesOnlyAt_blockIn (delta : Word) (s : State) : StoresOnlyAt [s.main.hl] s (blockIn delta s) := by
  obtain ⟨-, -, -, hmem, -⟩ := blockIn_eq delta s
  exact storesOnlyAt_of_storeCell (by simp [blockIn, blockIoEnd]) hmem List.mem_cons_self

theorem storesOnlyAt_blockCompare {as : List Word} (delta : Word) (s : State) : StoresOnlyAt as s (blockCompare delta s) := by
  obtain ⟨-, -, -, hmem, -⟩ := blockCompare_eq delta s
  exact storesOnlyAt_of_mem_eq (by simp [blockCompare]) hmem

theorem storesOnlyAt_blockOut {as : List Word} (delta : Word) (s : State) : StoresOnlyAt as s (blockOut delta s) := by
  obtain ⟨-, -, -, hmem, -⟩ := blockOut_eq delta s
  exact storesOnlyAt_of_mem_eq (by simp [blockOut, blockIoEnd]) hmem

@[simp] theorem memRead16_mem (s : State) (a : Word) : (s.memRead16 a).2.mem = s.mem := rfl

@[simp] theorem memRead16_params (s : State) (a : Word) : (s.memRead16 a).2.params = s.params := rfl

@[simp] theorem pop16_mem (s : State) : s.pop16.2.mem = s.mem := by rw [pop16_eq]

@[simp] theorem pop16_params (s : State) : s.pop16.2.params = s.params := by rw [pop16_eq]

/-! ### Every instruction -/

/-- If the outcome `o` of something done to `s` is a state, nothing is stored but at addresses of `as`. -/
def MayStoreAt (as : List Word) (s : State) (o : Out) : Prop := ∀ t, o = .next t → StoresOnlyAt as s t

theorem MayStoreAt.next {as : List Word} {s t : State} (h : StoresOnlyAt as s t) : MayStoreAt as s (.next t) := by
  rintro _ ⟨⟩
  exact h

theorem MayStoreAt.ite {as : List Word} {s : State} {b : Bool} {o o' : Out} (h : MayStoreAt as s o) (h' : MayStoreAt as s o') :
    MayStoreAt as s (if b then o else o') := by
  cases b
  · exact h'
  · exact h

theorem mayStoreAt_of_mem_eq {as : List Word} {s t : State} (hp : t.params = s.params) (hm : t.mem = s.mem) :
    MayStoreAt as s (.next t) :=
  .next (storesOnlyAt_of_mem_eq hp hm)

theorem mayStoreAt_of_storeCell {a : Word} {v : Byte} {s t : State} (hp : t.params = s.params)
    (hm : t.mem = storeCell s.params s.mem a v) : MayStoreAt [a] s (.next t) :=
  .next (storesOnlyAt_of_storeCell hp hm List.mem_cons_self)

theorem mayStoreAt_retire {as : List Word} {s t : State} (len : Word) (h : StoresOnlyAt as s t) : MayStoreAt as s (retire len t) :=
  .next (h.endAt (by simp) (by simp))

theorem mayStoreAt_repeatUnless {as : List Word} {s t : State} (done : Bool) (h : StoresOnlyAt as s t) :
    MayStoreAt as s (repeatUnless done t) :=
  .ite (mayStoreAt_retire 2 h) (.next (h.endAt (by simp) (by simp)))

theorem mayStoreAt_call (len target : Word) (s : State) : MayStoreAt [s.sp - 1, s.sp - 2] s (call len target s) :=
  .next ((storesOnlyAt_push16 s (s.pc + len)).endAt (by simp) (by simp))

theorem mayStoreAt_execCallCcNn (cc : Cond) (nn : Word) (s : State) :
    MayStoreAt (if s.cond cc then [s.sp - 1, s.sp - 2] else []) s (execCallCcNn cc nn s) := by
  rw [execCallCcNn]
  cases s.cond cc with
  | true =>
    have hpush : StoresOnlyAt [s.sp - 1, s.sp - 2] (s.addCyc 7) _ := storesOnlyAt_push16 (s.addCyc 7) (s.pc + 3)
    exact .next ((hpush.endAt (by simp) (by simp)).startAt rfl rfl)
  | false => exact mayStoreAt_of_mem_eq rfl rfl

/-- The instructions that store one byte, then those that store two, the block instructions, and the rest, which store nothing. Where
a pop or a pair named by an operand stands between, the lemmas on them say that memory is as before. -/
theorem exec_mayStoreAt (i : Instr) (s : State) : MayStoreAt (storeAddrs i s) s (exec i s) := by
  cases i with
  | ldIndHlR | ldIndHlN | ldIndBcA | ldIndDeA | ldIndNnA | ldIndIxdR | ldIndIxdN | ldIndIydR | ldIndIydN
  | incIndHl | decIndHl | incIndIxd | decIndIxd | incIndIyd | decIndIyd
  | rlcIndHl | rrcIndHl | rlIndHl | rrIndHl | slaIndHl | sraIndHl | sllIndHl | srlIndHl
  | rlcIndIxd | rrcIndIxd | rlIndIxd | rrIndIxd | slaIndIxd | sraIndIxd | sllIndIxd | srlIndIxd
  | rlcIndIyd | rrcIndIyd | rlIndIyd | rrIndIyd | slaIndIyd | sraIndIyd | sllIndIyd | srlIndIyd
  | rlcIndIxdR | rrcIndIxdR | rlIndIxdR | rrIndIxdR | slaIndIxdR | sraIndIxdR | sllIndIxdR | srlIndIxdR
  | rlcIndIydR | rrcIndIydR | rlIndIydR | rrIndIydR | slaIndIydR | sraIndIydR | sllIndIydR | srlIndIydR
  | resBIndHl | resBIndIxd | resBIndIyd | resBIndIxdR | resBIndIydR
  | setBIndHl | setBIndIxd | setBIndIyd | setBIndIxdR | setBIndIydR | rld | rrd =>
    exact mayStoreAt_of_storeCell rfl rfl
  | ldIndNnHl | ldIndNnDd | ldIndNnIx | ldIndNnIy => exact mayStoreAt_retire _ (storesOnlyAt_memWrite16 s _ _)
  | pushQq | pushIx | pushIy => exact mayStoreAt_retire _ (storesOnlyAt_push16 s _)
  | callNn | rstP => exact mayStoreAt_call _ _ s
  | callCcNn cc nn => exact mayStoreAt_execCallCcNn cc nn s
  | exIndSpHl => exact mayStoreAt_retire 1 ((storesOnlyAt_exchangeTop s.main.hl s).endAt (by simp) (by simp))
  | exIndSpIx => exact mayStoreAt_retire 2 ((storesOnlyAt_exchangeTop s.ix s).endAt (by simp) (by simp))
  | exIndSpIy => exact mayStoreAt_retire 2 ((storesOnlyAt_exchangeTop s.iy s).endAt (by simp) (by simp))
  -- the block instructions
  | ldi | ldd => exact mayStoreAt_retire _ (storesOnlyAt_blockLoad _ s)
  | ldir | lddr => exact mayStoreAt_repeatUnless _ (storesOnlyAt_blockLoad _ s)
  | ini | ind => exact mayStoreAt_retire _ (storesOnlyAt_blockIn _ s)
  | inir | indr => exact mayStoreAt_repeatUnless _ (storesOnlyAt_blockIn _ s)
  | cpi | cpd => exact mayStoreAt_retire _ (storesOnlyAt_blockCompare _ s)
  | cpir | cpdr => exact mayStoreAt_repeatUnless _ (storesOnlyAt_blockCompare _ s)
  | outi | outd => exact mayStoreAt_retire _ (storesOnlyAt_blockOut _ s)
  | otir | otdr => exact mayStoreAt_repeatUnless _ (storesOnlyAt_blockOut _ s)
  -- the rest stores nothing
  | jrCc | djnz | jpCcNn => exact .ite (mayStoreAt_of_mem_eq rfl rfl) (mayStoreAt_of_mem_eq rfl rfl)
  | retCc => exact .ite (mayStoreAt_of_mem_eq (by simp) (by simp)) (mayStoreAt_of_mem_eq rfl rfl)
  | ret | reti | retn | popQq | popIx | popIy | ldDdNn | incSs | decSs | ldDdIndNn =>
    exact mayStoreAt_of_mem_eq (by simp) (by simp)
  | _ => exact mayStoreAt_of_mem_eq rfl rfl

/-- Settles O18: the frame of what an instruction stores. -/
theorem memoryFrame : Obligations.MemoryFrame :=
  fun i s t hwf ht => (exec_mayStoreAt i s t ht).peek hwf

/-! ### Every call of the host -/

theorem MayStoreAt.startAt {as : List Word} {r s : State} {o : Out} (h : MayStoreAt as s o) (hp : s.params = r.params)
    (hm : s.mem = r.mem) : MayStoreAt as r o :=
  fun t ht => (h t ht).startAt hp hm

theorem MayStoreAt.onNext {as : List Word} {s : State} {o : Out} {g : State → State} (h : MayStoreAt as s o)
    (hp : ∀ t, (g t).params = t.params) (hm : ∀ t, (g t).mem = t.mem) : MayStoreAt as s (onNext g o) := by
  cases o with
  | next t => exact .next ((h t rfl).endAt (hp t) (hm t))
  | fault | refused => rintro _ ⟨⟩

@[simp] theorem fetched_mem (s : State) : s.fetched.mem = s.mem := by rw [fetched_eq]

@[simp] theorem fetched_params (s : State) : s.fetched.params = s.params := by rw [fetched_eq]

@[simp] theorem injected_mem (s : State) (data : Byte) : (s.injected data).mem = s.mem := by
  simp [State.injected, bumpR_eq, fetchBytes_eq]

@[simp] theorem injected_params (s : State) (data : Byte) : (s.injected data).params = s.params := by
  simp [State.injected, bumpR_eq, fetchBytes_eq]

@[simp] theorem finishStep_mem (s : State) (di ei : Bool) : (s.finishStep di ei).mem = s.mem := by
  rw [finishStep_eq, commit_frame]

@[simp] theorem finishStep_params (s : State) (di ei : Bool) : (s.finishStep di ei).params = s.params := by
  rw [finishStep_eq, commit_frame]

@[simp] theorem acceptMaskable_mem (s : State) : (acceptMaskable s).mem = s.mem := by rw [acceptMaskable_eq]

@[simp] theorem acceptMaskable_params (s : State) : (acceptMaskable s).params = s.params := by rw [acceptMaskable_eq]

theorem storesOnlyAt_acceptNmi (s : State) : StoresOnlyAt [s.sp - 1, s.sp - 2] s (acceptNmi s) := by
  rw [acceptNmi_eq]
  exact storesOnlyAt_of_storeCell_twice rfl rfl (by simp) (by simp)

theorem storesOnlyAt_enterMode1 (s : State) : StoresOnlyAt [s.sp - 1, s.sp - 2] s (enterMode1 s) := by
  rw [enterMode1_eq]
  exact storesOnlyAt_of_storeCell_twice rfl rfl (by simp) (by simp)

theorem storesOnlyAt_enterMode2 (data : Byte) (s : State) : StoresOnlyAt [s.sp - 1, s.sp - 2] s (enterMode2 data s) := by
  rw [enterMode2_eq]
  exact (storesOnlyAt_push16 s s.pc).endAt rfl rfl

theorem stepInstruction_mayStoreAt (s : State) : MayStoreAt (storeAddrs s.nextInstr s.fetched) s (stepInstruction s) := by
  cases h : s.halted with
  | true =>
    rw [stepInstruction_of_halted h]
    exact mayStoreAt_of_mem_eq rfl rfl
  | false =>
    rw [stepInstruction_of_running h]
    exact ((exec_mayStoreAt s.nextInstr s.fetched).startAt (by simp) (by simp)).onNext (by simp) (by simp)

theorem enterMode0_mayStoreAt (data : Byte) (s : State) :
    MayStoreAt (storeAddrs (s.injectedInstr data) (s.injected data)) s (enterMode0 data s) := by
  rw [enterMode0_eq_onNext]
  exact ((exec_mayStoreAt (s.injectedInstr data) (s.injected data)).startAt (by simp) (by simp)).onNext (by simp) (by simp)

theorem irq_mayStoreAt (nonMaskable : Bool) (data : Byte) (s : State) : ∃ as, MayStoreAt as s (irq nonMaskable data s) := by
  simp only [irq]
  split_ifs
  · exact ⟨_, .next (storesOnlyAt_acceptNmi s)⟩
  · suffices h : ∃ as, MayStoreAt as (acceptMaskable s) _ by
      obtain ⟨as, h⟩ := h
      exact ⟨as, h.startAt (acceptMaskable_params s) (acceptMaskable_mem s)⟩
    split
    · exact ⟨_, enterMode0_mayStoreAt data _⟩
    · exact ⟨_, .next (storesOnlyAt_enterMode1 _)⟩
    · exact ⟨_, .next (storesOnlyAt_enterMode2 data _)⟩
  · exact ⟨[], mayStoreAt_of_mem_eq rfl rfl⟩

theorem perform_mayStoreAt (call : HostCall) (s : State) : ∃ as, MayStoreAt as s (perform call s) := by
  cases call with
  | stepInstruction => exact ⟨_, stepInstruction_mayStoreAt s⟩
  | irq nonMaskable data => exact irq_mayStoreAt nonMaskable data s
  | reset => exact ⟨[], mayStoreAt_of_mem_eq rfl rfl⟩

theorem step_mayStoreAt (s : State) : ∃ as, MayStoreAt as s (step s) := by
  cases h : s.schedule with
  | nil =>
    rw [step_of_schedule_nil h]
    exact ⟨_, stepInstruction_mayStoreAt s⟩
  | cons call rest =>
    rw [step_of_schedule_cons h]
    obtain ⟨as, hcall⟩ := perform_mayStoreAt call { s with schedule := rest }
    exact ⟨as, hcall.startAt rfl rfl⟩

/-- Settles O19: a step changes memory by stores only, and a store keeps the canonical form. -/
theorem memoryStaysCanonical : Obligations.MemoryStaysCanonical := by
  intro s t hwf ht
  obtain ⟨as, hstep⟩ := step_mayStoreAt s
  exact (hstep t ht).wf hwf

/-- Settles O60: a step changes memory by stores only, and no store reaches ROM. -/
theorem readOnlyMemoryNeverChanges : Obligations.ReadOnlyMemoryNeverChanges := by
  intro s t hwf ht
  obtain ⟨as, hstep⟩ := step_mayStoreAt s
  refine ⟨(hstep t ht).params, fun a hrom => ?_⟩
  have hdev : s.isDevice a = false := by simp [State.isDevice, hrom]
  have hro : s.writable a = false := by simp [State.writable, hrom]
  exact (hstep t ht).peek hwf a hdev (.inr hro)

/-- Settles O20: nothing is listed at reset, and the host places bytes by stores. -/
theorem resetMemoryIsCanonical : Obligations.ResetMemoryIsCanonical :=
  ⟨rfl, fun s nbits w hwf => wf_placeBytes (tableBytes nbits w) s.mem s.pc hwf⟩

end Sys2Proof.Machine
end

section
/-! The decoder and the encoder are inverse to each other, and which second bytes are unrecognised (30_encoding.md). An opcode byte is
split into its fields `x`, `y`, `z`: with the fields known both compute on it, whatever the operand bytes are. -/

namespace Sys2Proof

/-! ### Fields of an opcode byte (30_encoding.md R94) -/

/-- The eight values of a 3-bit field. -/
theorem octalCases {motive : Field3 → Prop} (zero : motive 0) (one : motive 1) (two : motive 2) (three : motive 3)
    (four : motive 4) (five : motive 5) (six : motive 6) (seven : motive 7) : ∀ n, motive n
  | ⟨0⟩ => zero
  | ⟨1⟩ => one
  | ⟨2⟩ => two
  | ⟨3⟩ => three
  | ⟨4⟩ => four
  | ⟨5⟩ => five
  | ⟨6⟩ => six
  | ⟨7⟩ => seven

/-- The four values of the field `x`. -/
theorem fieldXCases {motive : BitVec 2 → Prop} (zero : motive 0) (one : motive 1) (two : motive 2) (three : motive 3) :
    ∀ n, motive n
  | ⟨0⟩ => zero
  | ⟨1⟩ => one
  | ⟨2⟩ => two
  | ⟨3⟩ => three

/-- Every byte is put together from its fields `x`, `y`, `z`. -/
theorem byteCases {motive : Byte → Prop} (fields : ∀ x y z, motive (opXYZ x y z)) (op : Byte) : motive op := by
  have h : ∀ op : Byte, opXYZ (op.extractLsb' 6 2) (op.extractLsb' 3 3) (op.extractLsb' 0 3) = op := by decide
  exact h op ▸ fields _ _ _

theorem opXYZ_toNat (x : BitVec 2) (y z : Field3) : (opXYZ x y z).toNat = 64 * x.toNat + 8 * y.toNat + z.toNat := by
  revert x y z
  decide

@[simp] theorem fieldX_opXYZ (x : BitVec 2) (y z : Field3) : fieldX (opXYZ x y z) = x.toNat := by
  have hy := y.isLt
  have hz := z.isLt
  rw [fieldX, opXYZ_toNat]
  omega

@[simp] theorem fieldY_opXYZ (x : BitVec 2) (y z : Field3) : fieldY (opXYZ x y z) = y.toNat := by
  have hy := y.isLt
  have hz := z.isLt
  rw [fieldY, opXYZ_toNat]
  omega

@[simp] theorem fieldZ_opXYZ (x : BitVec 2) (y z : Field3) : fieldZ (opXYZ x y z) = z.toNat := by
  have hz := z.isLt
  rw [fieldZ, opXYZ_toNat]
  omega

@[simp] theorem numY_opXYZ (x : BitVec 2) (y z : Field3) : numY (opXYZ x y z) = y := by
  rw [numY, fieldY_opXYZ, BitVec.ofNat_toNat, BitVec.setWidth_eq]

@[simp] theorem numZ_opXYZ (x : BitVec 2) (y z : Field3) : numZ (opXYZ x y z) = z := by
  rw [numZ, fieldZ_opXYZ, BitVec.ofNat_toNat, BitVec.setWidth_eq]

/-! ### Encode after decode -/

/-- The well-formed `i` is encoded as the opcode bytes `ops` and, as its operands, the first of the bytes `bs` that follow. -/
def Encoded (i : Instr) (ops bs : List Byte) : Prop :=
  WellFormed i ∧ ∃ operands, encode i = ops ++ operands ∧ operands <+: bs

/-- An instruction whose operand is the word of the next two bytes. -/
theorem encoded_of_word {i : Instr} {ops bs : List Byte} {lo hi : Byte} (hwf : WellFormed i)
    (henc : encode i = ops ++ [wordLo (mkWord hi lo), wordHi (mkWord hi lo)]) : Encoded i ops (lo :: hi :: bs) :=
  ⟨hwf, [lo, hi], by simpa using henc, _, rfl⟩

theorem decodeIndirect_encoded (y : Field3) (b1 b2 : Byte) (bs : List Byte) :
    Encoded (decodeIndirect (opXYZ 0 y 2) b1 b2) [opXYZ 0 y 2] (b1 :: b2 :: bs) := by
  cases y using octalCases with
  | four | five | six | seven => exact encoded_of_word rfl rfl
  | _ => exact ⟨rfl, _, rfl, _, rfl⟩

theorem decodeX0_encoded (y z : Field3) (b1 b2 : Byte) (bs : List Byte) :
    Encoded (decodeX0 (opXYZ 0 y z) b1 b2) [opXYZ 0 y z] (b1 :: b2 :: bs) := by
  cases z using octalCases with
  | one =>
    cases y using octalCases with
    | zero | two | four | six => exact encoded_of_word rfl rfl
    | _ => exact ⟨rfl, _, rfl, _, rfl⟩
  | two =>
    rw [decodeX0, fieldZ_opXYZ]
    exact decodeIndirect_encoded y b1 b2 bs
  | _ => cases y using octalCases <;> exact ⟨rfl, _, rfl, _, rfl⟩

theorem decodeX1_encoded (y z : Field3) (bs : List Byte) : Encoded (decodeX1 (opXYZ 1 y z)) [opXYZ 1 y z] bs := by
  cases z using octalCases <;> cases y using octalCases <;> exact ⟨rfl, _, rfl, _, rfl⟩

theorem decodeX2_encoded (y z : Field3) (bs : List Byte) : Encoded (decodeX2 (opXYZ 2 y z)) [opXYZ 2 y z] bs := by
  cases z using octalCases <;> cases y using octalCases <;> exact ⟨rfl, _, rfl, _, rfl⟩

theorem decodeCb_encoded (op : Byte) (bs : List Byte) : Encoded (decodeCb op) [0xCB, op] bs := by
  have h : ∀ op, WellFormed (decodeCb op) ∧ encode (decodeCb op) = [0xCB, op] := by decide
  exact ⟨(h op).1, [], (h op).2, _, rfl⟩

theorem decodeEdBlock_encoded (op : Byte) (bs : List Byte) (hx : fieldX op = 2) : Encoded (decodeEdBlock op) [0xED, op] bs := by
  have h : ∀ op, fieldX op = 2 → WellFormed (decodeEdBlock op) ∧ encode (decodeEdBlock op) = [0xED, op] := by decide
  exact ⟨(h op hx).1, [], (h op hx).2, _, rfl⟩

theorem decodeEdMain_encoded (y z : Field3) (b2 b3 : Byte) (bs : List Byte) :
    Encoded (decodeEdMain (opXYZ 1 y z) b2 b3) [0xED, opXYZ 1 y z] (b2 :: b3 :: bs) := by
  cases z using octalCases with
  | three => cases y using octalCases <;> exact encoded_of_word rfl rfl
  | _ => cases y using octalCases <;> exact ⟨rfl, _, rfl, _, rfl⟩

/-- The first byte of the plane of an index register (30_encoding.md R103). -/
def Index.prefixByte : Index → Byte
  | .ix => 0xDD
  | .iy => 0xFD

/-- The instruction that byte is of its own, before a byte its plane does not recognise (30_encoding.md R103). -/
def Index.lonePrefix : Index → Instr
  | .ix => .loneDd
  | .iy => .loneFd

theorem decodeXyLow_encoded (x : Index) (y z : Field3) (b2 b3 : Byte) (bs : List Byte) :
    ∀ i ∈ decodeXyLow x (opXYZ 0 y z) b2 b3, Encoded i [x.prefixByte, opXYZ 0 y z] (b2 :: b3 :: bs) := by
  cases z using octalCases with
  | one =>
    cases y using octalCases with
    | four => cases x <;> rintro _ ⟨⟩ <;> exact encoded_of_word rfl rfl
    | _ => cases x <;> rintro _ ⟨⟩ <;> exact ⟨rfl, _, rfl, _, rfl⟩
  | two => cases x <;> cases y using octalCases <;> rintro _ ⟨⟩ <;> exact encoded_of_word rfl rfl
  | _ => cases x <;> cases y using octalCases <;> rintro _ ⟨⟩ <;> exact ⟨rfl, _, rfl, _, rfl⟩

theorem decodeXyLoad_encoded (x : Index) (y z : Field3) (b2 : Byte) (bs : List Byte) :
    ∀ i ∈ decodeXyLoad x (opXYZ 1 y z) b2, Encoded i [x.prefixByte, opXYZ 1 y z] (b2 :: bs) := by
  cases x <;> cases z using octalCases <;> cases y using octalCases <;> rintro _ ⟨⟩ <;> exact ⟨rfl, _, rfl, _, rfl⟩

theorem decodeXyAlu_encoded (x : Index) (y z : Field3) (b2 : Byte) (bs : List Byte) :
    ∀ i ∈ decodeXyAlu x (opXYZ 2 y z) b2, Encoded i [x.prefixByte, opXYZ 2 y z] (b2 :: bs) := by
  cases x <;> cases z using octalCases <;> cases y using octalCases <;> rintro _ ⟨⟩ <;> exact ⟨rfl, _, rfl, _, rfl⟩

theorem decodeXyCbShift_encoded (x : Index) (d : Byte) (y z : Field3) (bs : List Byte) :
    Encoded (decodeXyCbShift x d (opXYZ 0 y z)) [x.prefixByte, 0xCB] (d :: opXYZ 0 y z :: bs) := by
  cases x <;> cases z using octalCases <;> cases y using octalCases <;> exact ⟨rfl, _, rfl, _, rfl⟩

/-- A bit number is the field `y` itself, and `BIT` keeps the field `z` too. -/
theorem decodeXyCb_encoded (x : Index) (d op : Byte) (bs : List Byte) :
    Encoded (decodeXyCb x d op) [x.prefixByte, 0xCB] (d :: op :: bs) := by
  cases op using byteCases with
  | fields k y z =>
    rw [decodeXyCb, fieldX_opXYZ, fieldZ_opXYZ, numY_opXYZ, numZ_opXYZ]
    cases k using fieldXCases with
    | zero => exact decodeXyCbShift_encoded x d y z bs
    | one => cases x <;> exact ⟨rfl, _, rfl, _, rfl⟩
    | two | three => cases x <;> cases z using octalCases <;> exact ⟨rfl, _, rfl, _, rfl⟩

theorem decodeXyHigh_encoded (x : Index) (y z : Field3) (b2 b3 : Byte) (bs : List Byte) :
    ∀ i ∈ decodeXyHigh x (opXYZ 3 y z) b2 b3, Encoded i [x.prefixByte, opXYZ 3 y z] (b2 :: b3 :: bs) := by
  cases z using octalCases with
  | three =>
    cases y using octalCases with
    | one =>
      rintro _ ⟨⟩
      exact decodeXyCb_encoded x b2 b3 bs
    | _ => cases x <;> rintro _ ⟨⟩ <;> exact ⟨rfl, _, rfl, _, rfl⟩
  | _ => cases x <;> cases y using octalCases <;> rintro _ ⟨⟩ <;> exact ⟨rfl, _, rfl, _, rfl⟩

theorem decodeXy_encoded (x : Index) (op b2 b3 : Byte) (bs : List Byte) :
    ∀ i ∈ decodeXy x op b2 b3, Encoded i [x.prefixByte, op] (b2 :: b3 :: bs) := by
  cases op using byteCases with
  | fields k y z =>
    rw [decodeXy, fieldX_opXYZ]
    cases k using fieldXCases with
    | zero => exact decodeXyLow_encoded x y z b2 b3 bs
    | one => exact decodeXyLoad_encoded x y z b2 (b3 :: bs)
    | two => exact decodeXyAlu_encoded x y z b2 (b3 :: bs)
    | three => exact decodeXyHigh_encoded x y z b2 b3 bs

theorem decodeEd_encoded (op b2 b3 : Byte) (bs : List Byte) : Encoded (decodeEd op b2 b3) [0xED, op] (b2 :: b3 :: bs) := by
  cases op using byteCases with
  | fields k y z =>
    rw [decodeEd, fieldX_opXYZ]
    cases k using fieldXCases with
    | zero => exact ⟨beq_iff_eq.2 (fieldX_opXYZ 0 y z), [], rfl, List.nil_prefix⟩
    | one => exact decodeEdMain_encoded y z b2 b3 bs
    | two => exact decodeEdBlock_encoded _ _ (fieldX_opXYZ 2 y z)
    | three => exact ⟨beq_iff_eq.2 (fieldX_opXYZ 3 y z), [], rfl, List.nil_prefix⟩

/-- A second opcode byte is also the byte that follows the first. -/
theorem Encoded.of_prefixed {i : Instr} {op b1 : Byte} {bs : List Byte} (h : Encoded i [op, b1] bs) :
    Encoded i [op] (b1 :: bs) := by
  obtain ⟨hwf, operands, henc, hpre⟩ := h
  exact ⟨hwf, b1 :: operands, henc, List.cons_prefix_cons.2 ⟨rfl, hpre⟩⟩

theorem decodeXy_getD_encoded (x : Index) (b1 b2 b3 : Byte) :
    Encoded ((decodeXy x b1 b2 b3).getD x.lonePrefix) [x.prefixByte] [b1, b2, b3] := by
  cases h : decodeXy x b1 b2 b3 with
  | none => cases x <;> exact ⟨rfl, [], rfl, List.nil_prefix⟩
  | some i => exact (decodeXy_encoded x b1 b2 b3 [] i h).of_prefixed

theorem decodeX3_encoded (y z : Field3) (b1 b2 b3 : Byte) :
    Encoded (decodeX3 (opXYZ 3 y z) b1 b2 b3) [opXYZ 3 y z] [b1, b2, b3] := by
  cases z using octalCases with
  | two | four => cases y using octalCases <;> exact encoded_of_word rfl rfl
  | three =>
    cases y using octalCases with
    | zero => exact encoded_of_word rfl rfl
    | one => exact (decodeCb_encoded b1 [b2, b3]).of_prefixed
    | _ => exact ⟨rfl, _, rfl, _, rfl⟩
  | five =>
    cases y using octalCases with
    | one => exact encoded_of_word rfl rfl
    | three => exact decodeXy_getD_encoded .ix b1 b2 b3
    | five => exact (decodeEd_encoded b1 b2 b3 []).of_prefixed
    | seven => exact decodeXy_getD_encoded .iy b1 b2 b3
    | _ => exact ⟨rfl, _, rfl, _, rfl⟩
  | _ => cases y using octalCases <;> exact ⟨rfl, _, rfl, _, rfl⟩

theorem decodeBytes_encoded (b0 b1 b2 b3 : Byte) : Encoded (decodeBytes b0 b1 b2 b3) [b0] [b1, b2, b3] := by
  cases b0 using byteCases with
  | fields x y z =>
    rw [decodeBytes, fieldX_opXYZ]
    cases x using fieldXCases with
    | zero => exact decodeX0_encoded y z b1 b2 [b3]
    | one => exact decodeX1_encoded y z [b1, b2, b3]
    | two => exact decodeX2_encoded y z [b1, b2, b3]
    | three => exact decodeX3_encoded y z b1 b2 b3

/-- Settles O2: plane by plane, the decoder answers the instruction whose encoding the bytes begin with. -/
theorem encodeOfDecodeIsTheBytes : Obligations.EncodeOfDecodeIsTheBytes := by
  intro b0 b1 b2 b3
  obtain ⟨hwf, operands, henc, hpre⟩ := decodeBytes_encoded b0 b1 b2 b3
  have hlen : (decodeBytes b0 b1 b2 b3).length = operands.length + 1 := by rw [Instr.length, henc]; rfl
  have hle : operands.length ≤ 3 := hpre.length_le
  refine ⟨hwf, ?_, by omega, by omega⟩
  rw [hlen, henc, List.take_succ_cons, ← List.prefix_iff_eq_take.1 hpre]
  rfl

/-! ### Unrecognised second bytes (30_encoding.md R102, R103) -/

theorem isSome_decodeXyLow (x : Index) (op b2 b3 : Byte) :
    (decodeXyLow x op b2 b3).isSome = (decodeXyLow .ix op 0 0).isSome := by
  unfold decodeXyLow
  split <;> rfl

theorem isSome_decodeXyLoad (x : Index) (op b2 : Byte) : (decodeXyLoad x op b2).isSome = (decodeXyLoad .ix op 0).isSome := by
  unfold decodeXyLoad
  split <;> simp [*]

theorem isSome_decodeXyAlu (x : Index) (op b2 : Byte) : (decodeXyAlu x op b2).isSome = (decodeXyAlu .ix op 0).isSome := by
  unfold decodeXyAlu
  split <;> rfl

theorem isSome_decodeXyHigh (x : Index) (op b2 b3 : Byte) :
    (decodeXyHigh x op b2 b3).isSome = (decodeXyHigh .ix op 0 0).isSome := by
  unfold decodeXyHigh
  split <;> rfl

/-- Which second bytes the DD/FD plane recognises depends neither on the index register nor on the operand bytes. -/
theorem isSome_decodeXy (x : Index) (op b2 b3 : Byte) : (decodeXy x op b2 b3).isSome = xyRecognised op := by
  unfold xyRecognised decodeXy
  split
  · exact isSome_decodeXyLow x op b2 b3
  · exact isSome_decodeXyLoad x op b2
  · exact isSome_decodeXyAlu x op b2
  · exact isSome_decodeXyHigh x op b2 b3

theorem decodeBytes_prefixByte (x : Index) (b1 b2 b3 : Byte) :
    decodeBytes x.prefixByte b1 b2 b3 = (decodeXy x b1 b2 b3).getD x.lonePrefix := by
  cases x <;> rfl

/-- A lone `DD` or `FD` has one opcode byte, not two. -/
theorem Encoded.ne_lonePrefix {i : Instr} {x : Index} {op b1 : Byte} {bs : List Byte} (h : Encoded i [op, b1] bs) :
    i ≠ x.lonePrefix := by
  rintro rfl
  obtain ⟨-, operands, henc, -⟩ := h
  cases x <;> cases henc

theorem decodeBytes_eq_lonePrefix_iff (x : Index) (b1 b2 b3 : Byte) :
    decodeBytes x.prefixByte b1 b2 b3 = x.lonePrefix ↔ xyRecognised b1 = false := by
  rw [decodeBytes_prefixByte, ← isSome_decodeXy x b1 b2 b3]
  cases h : decodeXy x b1 b2 b3 with
  | none => simp
  | some i => simpa using (decodeXy_encoded x b1 b2 b3 [] i h).ne_lonePrefix

theorem xyRecognised_eq_false_iff (op : Byte) : xyRecognised op = false ↔ op.toNat ∉ Machine.xySecondBytes := by
  revert op
  decide

theorem isEdNop_decodeEdMain (op b2 b3 : Byte) :
    Machine.isEdNop (decodeEdMain op b2 b3) = Machine.isEdNop (decodeEdMain op 0 0) := by
  unfold decodeEdMain
  split
  case h_4 => split <;> rfl
  all_goals rfl

theorem isEdNop_decodeEd (op b2 b3 : Byte) : Machine.isEdNop (decodeEd op b2 b3) = !edRecognised op := by
  have hfree : Machine.isEdNop (decodeEd op b2 b3) = Machine.isEdNop (decodeEd op 0 0) := by
    unfold decodeEd
    split
    case h_2 => exact isEdNop_decodeEdMain op b2 b3
    all_goals rfl
  have h : ∀ op, Machine.isEdNop (decodeEd op 0 0) = !edRecognised op := by decide
  rw [hfree, h]

/-- Settles O3: the operand bytes do not matter, and without them each set of second bytes is compared with the decoder's own. -/
theorem unrecognisedSecondBytes : Obligations.UnrecognisedSecondBytes := by
  intro b1 b2 b3 n
  refine ⟨?_, (decodeBytes_eq_lonePrefix_iff .ix b1 b2 b3).trans (xyRecognised_eq_false_iff b1),
    (decodeBytes_eq_lonePrefix_iff .iy b1 b2 b3).trans (xyRecognised_eq_false_iff b1)⟩
  change Machine.isEdNop (decodeEd b1 b2 b3) = true ↔ _
  rw [isEdNop_decodeEd]
  revert b1
  decide

/-- Settles O4: the decoder computes on every word, operand bytes free. -/
theorem sampleWordsDecode : Obligations.SampleWordsDecode := by
  intro p q
  and_intros <;> rfl

/-! ### Decode after encode -/

/-- What the four bytes that begin with `bs` and go on with `p q r s` decode to. -/
def decodePadded (p q r s : Byte) : List Byte → Instr
  | [] => decodeBytes p q r s
  | [a] => decodeBytes a p q r
  | [a, b] => decodeBytes a b p q
  | [a, b, c] => decodeBytes a b c p
  | a :: b :: c :: d :: _ => decodeBytes a b c d

theorem decodeBytes_append : ∀ bs rest : List Byte,
    decodeBytes ((bs ++ rest).getD 0 0) ((bs ++ rest).getD 1 0) ((bs ++ rest).getD 2 0) ((bs ++ rest).getD 3 0) =
      decodePadded (rest.getD 0 0) (rest.getD 1 0) (rest.getD 2 0) (rest.getD 3 0) bs
  | [], _ | [_], _ | [_, _], _ | [_, _, _], _ | _ :: _ :: _ :: _ :: _, _ => rfl

theorem decode_of_decodeBytes {bs : List Byte} {i : Instr}
    (h : decodeBytes (bs.getD 0 0) (bs.getD 1 0) (bs.getD 2 0) (bs.getD 3 0) = i) (hread : i.bytesRead ≤ bs.length) :
    decode bs = .ok (i, bs.drop i.length) := by
  subst h
  exact if_pos hread

theorem bytesRead_eq_length {i : Instr} (hdd : i ≠ .loneDd) (hfd : i ≠ .loneFd) : i.bytesRead = i.length := by
  unfold Instr.bytesRead
  split
  · exact absurd rfl hdd
  · exact absurd rfl hfd
  · rfl

/-! An unrecognised ED second byte is an operand of its instruction; well-formed, it lies in that instruction's part of the plane. -/

theorem decodeEd_edNop00 {op : Byte} (hwf : WellFormed (.edNop00 op)) (b2 b3 : Byte) : decodeEd op b2 b3 = .edNop00 op := by
  have hx : fieldX op = 0 := beq_iff_eq.1 hwf
  simp only [decodeEd, hx]

theorem decodeEd_edNopC0 {op : Byte} (hwf : WellFormed (.edNopC0 op)) (b2 b3 : Byte) : decodeEd op b2 b3 = .edNopC0 op := by
  have hx : fieldX op = 3 := beq_iff_eq.1 hwf
  simp only [decodeEd, hx]

theorem decodeEd_edNop80 {op : Byte} (hwf : WellFormed (.edNop80 op)) (b2 b3 : Byte) : decodeEd op b2 b3 = .edNop80 op := by
  have h : ∀ op, WellFormed (.edNop80 op) → fieldX op = 2 ∧ decodeEdBlock op = .edNop80 op := by decide
  obtain ⟨hx, hop⟩ := h op hwf
  simp only [decodeEd, hx, hop]

theorem decodeEd_edNopA4 {op : Byte} (hwf : WellFormed (.edNopA4 op)) (b2 b3 : Byte) : decodeEd op b2 b3 = .edNopA4 op := by
  have h : ∀ op, WellFormed (.edNopA4 op) → fieldX op = 2 ∧ decodeEdBlock op = .edNopA4 op := by decide
  obtain ⟨hx, hop⟩ := h op hwf
  simp only [decodeEd, hx, hop]

/-- An instruction at a word is what it is at the word of that word's two bytes. -/
theorem eq_of_word {α : Type} {f : Word → α} (nn : Word) {a : α} (h : a = f (mkWord (wordHi nn) (wordLo nn))) : a = f nn := by
  rwa [mkWord_wordHi_wordLo] at h

/-- The cases go by the operands that stand in opcode bytes: at each of their codes the decoder computes, and a code that a well-formed
instruction cannot have contradicts `hwf`. -/
theorem decodePadded_encode {i : Instr} (hwf : WellFormed i) (hdd : i ≠ .loneDd) (hfd : i ≠ .loneFd) (p q r s : Byte) :
    decodePadded p q r s (encode i) = i := by
  cases i with
  | loneDd => exact absurd rfl hdd
  | loneFd => exact absurd rfl hfd
  | ldIndNnHl nn | ldIndNnA nn | ldHlIndNn nn | ldAIndNn nn | jpNn nn | callNn nn | ldIxNn nn | ldIndNnIx nn | ldIxIndNn nn
  | ldIyNn nn | ldIndNnIy nn | ldIyIndNn nn => exact eq_of_word nn rfl
  | ldDdNn dd nn | ldDdIndNn dd nn => cases dd <;> exact eq_of_word nn rfl
  | jpCcNn cc nn | callCcNn cc nn => cases cc <;> exact eq_of_word nn rfl
  | ldIndNnDd nn dd => cases dd <;> exact eq_of_word (f := (Instr.ldIndNnDd · _)) nn rfl
  | addHlSs ss | incSs ss | decSs ss | sbcHlSs ss | adcHlSs ss | addIxPp ss | addIyPp ss => cases ss <;> rfl
  | popQq qq | pushQq qq => cases qq <;> rfl
  | retCc cc => cases cc <;> rfl
  | jrCc cc e => cases cc <;> cases hwf <;> rfl
  | ldRR r r' => cases r <;> cases r' <;> rfl
  | incR r | decR r | ldRN r n | ldRIndHl r | ldIndHlR r | addAR r | adcAR r | subR r | sbcAR r | andR r | xorR r | orR r
  | cpR r | rlcR r | rrcR r | rlR r | rrR r | slaR r | sraR r | sllR r | srlR r | inRIndC r | outIndCR r | ldRIndIxd r d
  | ldIndIxdR d r | rlcIndIxdR d r | rrcIndIxdR d r | rlIndIxdR d r | rrIndIxdR d r | slaIndIxdR d r | sraIndIxdR d r
  | sllIndIxdR d r | srlIndIxdR d r | ldRIndIyd r d | ldIndIydR d r | rlcIndIydR d r | rrcIndIydR d r | rlIndIydR d r
  | rrIndIydR d r | slaIndIydR d r | sraIndIydR d r | sllIndIydR d r | srlIndIydR d r => cases r <;> rfl
  | ldRIxh r | ldRIxl r | ldIxhR r | ldIxlR r | ldRIyh r | ldRIyl r | ldIyhR r | ldIylR r =>
    cases r <;> cases hwf <;> rfl
  | rstP y | bitBIndHl y | resBIndHl y | setBIndHl y | neg y | resBIndIxd y d | setBIndIxd y d | resBIndIyd y d
  | setBIndIyd y d => cases y using octalCases <;> rfl
  | retn y | im0 y | im1 y | im2 y => cases y using octalCases <;> cases hwf <;> rfl
  | bitBR b r | resBR b r | setBR b r | resBIndIxdR b d r | setBIndIxdR b d r | resBIndIydR b d r | setBIndIydR b d r =>
    cases b using octalCases <;> cases r <;> rfl
  | bitBIndIxd b d z | bitBIndIyd b d z => cases b using octalCases <;> cases z using octalCases <;> rfl
  | edNop00 => exact decodeEd_edNop00 hwf p q
  | edNop80 => exact decodeEd_edNop80 hwf p q
  | edNopA4 => exact decodeEd_edNopA4 hwf p q
  | edNopC0 => exact decodeEd_edNopC0 hwf p q
  | _ => rfl

theorem decode_lonePrefix (x : Index) {b : Byte} (hb : xyRecognised b = false) (rest : List Byte) :
    decode (x.prefixByte :: b :: rest) = .ok (x.lonePrefix, b :: rest) := by
  have h := decode_of_decodeBytes (bs := x.prefixByte :: b :: rest) ((decodeBytes_eq_lonePrefix_iff x b _ _).2 hb)
  cases x <;> exact h (by simp [Instr.bytesRead, Index.lonePrefix])

/-- Settles O1: the bytes of an instruction decide the decode alone, those of a lone `DD` or `FD` with the byte after them. -/
theorem decodeOfEncodeIsTheInstruction : Obligations.DecodeOfEncodeIsTheInstruction := by
  refine ⟨fun i hwf hdd hfd rest => ?_, fun b rest hb => ⟨decode_lonePrefix .ix hb rest, decode_lonePrefix .iy hb rest⟩⟩
  have hdec := (decodeBytes_append (encode i) rest).trans (decodePadded_encode hwf hdd hfd _ _ _ _)
  have hread : i.bytesRead ≤ (encode i ++ rest).length := by
    rw [bytesRead_eq_length hdd hfd, Instr.length, List.length_append]
    omega
  rw [decode_of_decodeBytes hdec hread, Instr.length, List.drop_left]

end Sys2Proof
end

section
/-! Fetching, decoding and completing (40_fetch_decode.md): the fetch counts, reads and costs what the decoded instruction says (R130, R131,
R139), every instruction ends where the tables of Safety.lean say (R140), and a step puts the two together. -/

namespace Sys2Proof.Machine

/-! ### How many opcode bytes an instruction has (40_fetch_decode.md R131) -/

theorem opcodeCount_of_main {i : Instr} {b : Byte} {operands : List Byte} (henc : encode i = b :: operands)
    (hb : ¬ (b = 0xCB ∨ b = 0xED ∨ b = 0xDD ∨ b = 0xFD)) : opcodeCount i = 1 := by
  rw [opcodeCount, henc]
  cases operands with
  | nil => rfl
  | cons => exact if_neg hb

theorem opcodeCount_of_prefixed {i : Instr} {b op : Byte} {bs : List Byte} (h : Encoded i [b, op] bs)
    (hb : b = 0xCB ∨ b = 0xED ∨ b = 0xDD ∨ b = 0xFD) : opcodeCount i = 2 := by
  obtain ⟨-, operands, henc, -⟩ := h
  rw [opcodeCount, henc]
  exact if_pos hb

/-- After `DD` or `FD` the second byte is an opcode byte exactly where the plane recognises it. -/
theorem opcodeCount_decodeBytes_prefixByte (x : Index) (b1 b2 b3 : Byte) :
    opcodeCount (decodeBytes x.prefixByte b1 b2 b3) = if xyRecognised b1 then 2 else 1 := by
  rw [decodeBytes_prefixByte, ← isSome_decodeXy x b1 b2 b3]
  cases h : decodeXy x b1 b2 b3 with
  | none => cases x <;> rfl
  | some i => exact opcodeCount_of_prefixed (decodeXy_encoded x b1 b2 b3 [] i h) (by cases x <;> decide)

/-- The bytes the dispatcher and the handlers after it consume are the opcode bytes of the instruction they decode. -/
theorem opcodeCount_decodeBytes (b0 b1 b2 b3 : Byte) : opcodeCount (decodeBytes b0 b1 b2 b3) = opcodeBytes b0 b1 := by
  by_cases hb : b0 = 0xCB ∨ b0 = 0xED ∨ b0 = 0xDD ∨ b0 = 0xFD
  · obtain rfl | rfl | rfl | rfl := hb
    · exact opcodeCount_of_prefixed (decodeCb_encoded b1 []) (by decide)
    · exact opcodeCount_of_prefixed (decodeEd_encoded b1 b2 b3 []) (by decide)
    · exact (opcodeCount_decodeBytes_prefixByte .ix b1 b2 b3).trans (by simp [opcodeBytes])
    · exact (opcodeCount_decodeBytes_prefixByte .iy b1 b2 b3).trans (by simp [opcodeBytes])
  · obtain ⟨-, operands, henc, -⟩ := decodeBytes_encoded b0 b1 b2 b3
    rw [opcodeCount_of_main henc hb, opcodeBytes, if_neg (by tauto), if_neg (by tauto)]

/-! ### The fetch (40_fetch_decode.md R130, R131, R139) -/

theorem changed_fetchBytes (s : State) (a : Word) (n : Nat) : Changed [] (fetchOps s a n) s (s.fetchBytes a n) := by
  induction n generalizing s a with
  | zero => exact changed_of_sameSlots (fun _ _ => rfl) ⟨rfl, rfl, rfl, rfl⟩ rfl rfl rfl
  | succ n ih => exact (changed_memRead s a).trans (ih (s.memRead a).2 (a + 1))

/-- Besides the reads a fetch writes four slots. -/
theorem changed_fetched (s : State) :
    Changed [.r, .pendingDi, .pendingEi, .cyc] (fetchOps s s.pc s.nextInstr.bytesRead) s s.fetched := by
  have hslot : SameSlots [.r, .pendingDi, .pendingEi, .cyc] (s.fetchBytes s.pc s.nextInstr.bytesRead) s.fetched := by
    rw [fetched_eq, fetchBytes_eq]
    intro x hx
    cases x with
    | r | pendingDi | pendingEi | cyc => simp at hx
    | _ => rfl
  have hrest : Changed [.r, .pendingDi, .pendingEi, .cyc] [] (s.fetchBytes s.pc s.nextInstr.bytesRead) s.fetched := by
    refine changed_of_sameSlots hslot ?_ ?_ ?_ ?_ <;> rw [fetched_eq, fetchBytes_eq]
    exact ⟨rfl, rfl, rfl, rfl⟩
  simpa using (changed_fetchBytes s s.pc s.nextInstr.bytesRead).trans hrest

theorem fetched_r (s : State) : s.fetched.r = bumpByte^[opcodeCount s.nextInstr] s.r := by
  rw [fetched_eq, State.nextInstr, opcodeCount_decodeBytes]

@[simp] theorem fetched_cyc (s : State) : s.fetched.cyc = s.cyc + stepCost s := by rw [fetched_eq]

/-- Settles O7: the fetch is its reads and four slots, and `R` is incremented once per opcode byte of the instruction decoded. -/
theorem fetchReadsAndCounts : Obligations.FetchReadsAndCounts := by
  intro s
  refine ⟨changed_fetched s, by rw [fetched_eq], by rw [fetched_eq], fetched_cyc s, ?_, ?_⟩
  · rw [fetched_r, bumpByte_iterate_low]
  · rw [fetched_r, bumpByte_iterate_high]

/-! ### What the operations keep -/

/-- What every operation but the ends of an instruction and `addCyc` leaves alone: `PC`, the T-states and the host's side. -/
structure KeepsControl (s t : State) : Prop where
  pc : t.pc = s.pc
  cyc : t.cyc = s.cyc
  host : SameHost s t

theorem KeepsControl.refl (s : State) : KeepsControl s s := ⟨rfl, rfl, rfl, rfl, rfl, rfl⟩

theorem KeepsControl.trans {s t u : State} (h : KeepsControl s t) (h' : KeepsControl t u) : KeepsControl s u :=
  ⟨h'.pc.trans h.pc, h'.cyc.trans h.cyc, h.host.trans h'.host⟩

theorem keepsControl_setReg (r : Reg8) (v : Byte) (s : State) : KeepsControl s (s.setReg r v) :=
  ⟨rfl, rfl, rfl, rfl, rfl, rfl⟩

theorem keepsControl_setPair (p : Pair) (v : Word) (s : State) : KeepsControl s (s.setPair p v) := by
  cases p <;> exact ⟨rfl, rfl, rfl, rfl, rfl, rfl⟩

theorem keepsControl_setPairQ (p : PairQ) (v : Word) (s : State) : KeepsControl s (s.setPairQ p v) := by
  cases p <;> exact ⟨rfl, rfl, rfl, rfl, rfl, rfl⟩

theorem keepsControl_setIdx (x : Index) (v : Word) (s : State) : KeepsControl s (s.setIdx x v) := by
  cases x <;> exact ⟨rfl, rfl, rfl, rfl, rfl, rfl⟩

theorem keepsControl_memRead16 (s : State) (a : Word) : KeepsControl s (s.memRead16 a).2 := by
  rw [memRead16_eq]
  exact ⟨rfl, rfl, rfl, rfl, rfl, rfl⟩

theorem keepsControl_memWrite16 (s : State) (a v : Word) : KeepsControl s (s.memWrite16 a v) := by
  rw [memWrite16_eq]
  exact ⟨rfl, rfl, rfl, rfl, rfl, rfl⟩

theorem keepsControl_push16 (s : State) (v : Word) : KeepsControl s (s.push16 v) := by
  rw [push16_eq]
  exact ⟨rfl, rfl, rfl, rfl, rfl, rfl⟩

theorem keepsControl_pop16 (s : State) : KeepsControl s s.pop16.2 := by
  rw [pop16_eq]
  exact ⟨rfl, rfl, rfl, rfl, rfl, rfl⟩

theorem keepsControl_exchangeTop (v : Word) (s : State) : KeepsControl s (exchangeTop v s).2 := by
  rw [exchangeTop_eq]
  exact ⟨rfl, rfl, rfl, rfl, rfl, rfl⟩

theorem keepsControl_blockLoad (delta : Word) (s : State) : KeepsControl s (blockLoad delta s) := by
  constructor <;> simp [blockLoad, SameHost]

theorem keepsControl_blockCompare (delta : Word) (s : State) : KeepsControl s (blockCompare delta s) := by
  constructor <;> simp [blockCompare, SameHost]

theorem keepsControl_blockIn (delta : Word) (s : State) : KeepsControl s (blockIn delta s) := by
  constructor <;> simp [blockIn, blockIoEnd, SameHost]

theorem keepsControl_blockOut (delta : Word) (s : State) : KeepsControl s (blockOut delta s) := by
  constructor <;> simp [blockOut, blockIoEnd, SameHost]

/-! ### How an instruction ends (40_fetch_decode.md R140; 10_state.md R26) -/

/-- The outcome `o` of something done to `s` is a next state, with `PC` at `pc`, `n` T-states more, and the host's side as it was. -/
def EndsAt (pc : Word) (n : Nat) (s : State) (o : Out) : Prop :=
  ∃ t, o = .next t ∧ t.pc = pc ∧ t.cyc = s.cyc + n ∧ SameHost s t

theorem endsAt_next {pc : Word} {n : Nat} {s t : State} (hpc : t.pc = pc) (hcyc : t.cyc = s.cyc + n) (hhost : SameHost s t) :
    EndsAt pc n s (.next t) :=
  ⟨t, rfl, hpc, hcyc, hhost⟩

theorem KeepsControl.retire {s t : State} (h : KeepsControl s t) (len : Word) : EndsAt (s.pc + len) 0 s (retire len t) :=
  endsAt_next (by simp [h.pc]) h.cyc h.host

theorem KeepsControl.jump {s t : State} (h : KeepsControl s t) (target : Word) : EndsAt target 0 s (jump target t) :=
  endsAt_next rfl h.cyc h.host

theorem endsAt_call (len target : Word) (s : State) : EndsAt target 0 s (call len target s) :=
  (keepsControl_push16 s (s.pc + len)).jump target

theorem endsAt_popPc (s : State) : EndsAt (s.word s.sp) 0 s (popPc s) := by
  rw [← pop16_value]
  exact (keepsControl_pop16 s).jump _

theorem endsAt_returnFromInt (restore : Bool) (s : State) : EndsAt (s.word s.sp) 0 s (returnFromInt restore s) := by
  obtain ⟨-, hcyc, hhost⟩ := keepsControl_pop16 s
  exact endsAt_next (pop16_value s) hcyc hhost

/-- T-states that are added first count with those that come later. -/
theorem EndsAt.addCyc {pc : Word} {n k : Nat} {s : State} {o : Out} (h : EndsAt pc n (s.addCyc k) o) : EndsAt pc (k + n) s o := by
  obtain ⟨t, ho, hpc, hcyc, hhost⟩ := h
  exact ⟨t, ho, hpc, hcyc.trans (Nat.add_assoc ..), hhost⟩

/-- A branch ends where the side it takes ends. -/
theorem EndsAt.ite {b : Bool} {p : Prop} [Decidable p] (hb : b = true ↔ p) {pc pc' : Word} {n n' : Nat} {s : State} {o o' : Out}
    (h : EndsAt pc n s o) (h' : EndsAt pc' n' s o') :
    EndsAt (if p then pc else pc') (if p then n else n') s (if b then o else o') := by
  cases b with
  | true => simpa [← hb] using h
  | false => simpa [← hb] using h'

/-- Where a repeating instruction goes on it has cost nothing extra, where it repeats 5 T-states (48_block.md R447). -/
theorem extraCost_of_repeats {i : Instr} (hi : repeats i = true) {s : State} {p : Prop} [Decidable p]
    (hnext : nextPc i s = if p then s.pc + 2 else s.pc) : extraCost i s = if p then 0 else 5 := by
  have hextra : extraCost i s = if repeats i = true ∧ nextPc i s = s.pc then 5 else 0 := by
    cases i with
    | jrCc | djnz | callCcNn | retCc => cases hi
    | _ => rfl
  rw [hextra, hnext]
  by_cases hp : p <;> simp [hp, hi]

theorem endsAt_of_repeats {i : Instr} {s t : State} {done : Bool} {p : Prop} [Decidable p] (hi : repeats i = true)
    (hexec : exec i s = repeatUnless done t) (hnext : nextPc i s = if p then s.pc + 2 else s.pc) (hdone : done = true ↔ p)
    (h : KeepsControl s t) : EndsAt (nextPc i s) (extraCost i s) s (exec i s) := by
  rw [hexec, hnext, extraCost_of_repeats hi hnext]
  exact .ite hdone (h.retire 2) (endsAt_next h.pc (by simp [h.cyc]) h.host)

/-! ### When a repeating instruction is done (48_block.md R433, R437, R441) -/

theorem blockLoad_done_iff (delta : Word) (s : State) : ((blockLoad delta s).main.bc == 0) = true ↔ s.main.bc = 1 := by
  obtain ⟨-, -, hbc, -⟩ := blockLoad_eq delta s
  rw [beq_iff_eq, hbc, sub_eq_zero]

theorem ofInt_sub_eq_zero_iff (a v : Byte) : BitVec.ofInt 8 ((a.toNat : Int) - v.toNat) = 0 ↔ a = v := by
  have ha := a.isLt
  have hv := v.isLt
  have hzero : (0 : Byte).toNat = 0 := rfl
  rw [← BitVec.toNat_inj, ← BitVec.toNat_inj, BitVec.toNat_ofInt, hzero]
  omega

theorem blockCompare_z (delta : Word) (s : State) : (blockCompare delta s).flags.z = true ↔ s.main.a = s.peek s.main.hl := by
  have hz : (blockCompare delta s).flags.z = (BitVec.ofInt 8 ((s.main.a.toNat : Int) - (s.peek s.main.hl).toNat) == 0) :=
    congrArg Flags.z (unpack_pack _)
  rw [hz, beq_iff_eq, ofInt_sub_eq_zero_iff]

theorem blockCompare_done_iff (delta : Word) (s : State) :
    ((blockCompare delta s).main.bc == 0 || (blockCompare delta s).flags.z) = true ↔
      s.main.bc = 1 ∨ s.main.a = s.peek s.main.hl := by
  obtain ⟨-, hbc, -⟩ := blockCompare_eq delta s
  rw [Bool.or_eq_true, beq_iff_eq, hbc, sub_eq_zero, blockCompare_z]

theorem mkWord_eq_zero_iff (hi lo : Byte) : mkWord hi lo = 0 ↔ hi = 0 ∧ lo = 0 := by
  constructor
  · intro h
    have hhi := congrArg wordHi h
    have hlo := congrArg wordLo h
    rw [wordHi_mkWord] at hhi
    rw [wordLo_mkWord] at hlo
    exact ⟨hhi, hlo⟩
  · rintro ⟨rfl, rfl⟩
    rfl

theorem dec8_eq_zero_iff (v : Byte) (g : Flags) : (dec8 v g).1 = 0 ↔ v = 1 := ofInt_sub_eq_zero_iff v 1

/-- With `B` decremented and `C` kept, both ways to end ask that `B` was 1 (D13, D16). -/
theorem ioBlockDone_iff {s t : State} (h : KeepsControl s t) (hb : t.main.b = (dec8 s.main.b s.flags).1)
    (hc : t.main.c = s.main.c) :
    ioBlockDone t = true ↔ s.main.b = 1 ∧ (s.params.ioBlockRepeatOnBc = true → s.main.c = 0) := by
  obtain ⟨hp, -⟩ := h.host
  have hbc : t.main.bc = 0 ↔ s.main.b = 1 ∧ s.main.c = 0 := by
    rw [Bank.bc, mkWord_eq_zero_iff, hb, hc, dec8_eq_zero_iff]
  have hb' : t.main.b = 0 ↔ s.main.b = 1 := by rw [hb, dec8_eq_zero_iff]
  rw [ioBlockDone, hp]
  cases s.params.ioBlockRepeatOnBc with
  | true => simpa using hbc
  | false => simpa using hb'

theorem blockIn_done_iff (delta : Word) (s : State) :
    ioBlockDone (blockIn delta s) = true ↔ s.main.b = 1 ∧ (s.params.ioBlockRepeatOnBc = true → s.main.c = 0) := by
  obtain ⟨-, hb, hc, -⟩ := blockIn_eq delta s
  exact ioBlockDone_iff (keepsControl_blockIn delta s) hb hc

theorem blockOut_done_iff (delta : Word) (s : State) :
    ioBlockDone (blockOut delta s) = true ↔ s.main.b = 1 ∧ (s.params.ioBlockRepeatOnBc = true → s.main.c = 0) := by
  obtain ⟨-, hb, hc, -⟩ := blockOut_eq delta s
  exact ioBlockDone_iff (keepsControl_blockOut delta s) hb hc

/-! ### Every instruction -/

/-- `DJNZ` goes on where `B` becomes 0 (46_control.md R357). -/
theorem endsAt_execDjnz (e : Byte) (s : State) :
    EndsAt (if s.main.b = 1 then s.pc + 2 else relTarget s.pc e) (if s.main.b = 1 then 0 else 5) s (execDjnz e s) := by
  have hjumps : (s.main.b - 1 != 0) = true ↔ s.main.b ≠ 1 := by rw [bne_iff_ne, ne_eq, sub_eq_zero]
  have h : EndsAt (if s.main.b ≠ 1 then relTarget s.pc e else s.pc + 2) (if s.main.b ≠ 1 then 5 else 0) s (execDjnz e s) :=
    .ite hjumps ((keepsControl_setReg .b (s.main.b - 1) (s.addCyc 5)).jump (relTarget s.pc e)).addCyc
      ((keepsControl_setReg .b (s.main.b - 1) s).retire 2)
  simpa only [ne_eq, ite_not] using h

theorem endsAt_execJpCcNn (cc : Cond) (nn : Word) (s : State) :
    EndsAt (if s.cond cc then nn else s.pc + 3) 0 s (execJpCcNn cc nn s) := by
  have h : EndsAt (if s.cond cc then nn else s.pc + 3) (if s.cond cc then 0 else 0) s (execJpCcNn cc nn s) :=
    .ite Iff.rfl ((KeepsControl.refl s).jump nn) ((KeepsControl.refl s).retire 3)
  rwa [ite_self] at h

/-- Settles O8: an operation that keeps `PC`, the T-states and the host's side, and then one of the ends. The cases go by the
operation; where it is a single update of the state, the last case reads the answer off. -/
theorem everyInstructionCompletes : Obligations.EveryInstructionCompletes := by
  intro i s
  change EndsAt (nextPc i s) (extraCost i s) s (exec i s)
  cases i with
  | ldDdNn | incSs | decSs => exact (keepsControl_setPair _ _ s).retire _
  | ldDdIndNn _ nn => exact ((keepsControl_memRead16 s nn).trans (keepsControl_setPair _ _ _)).retire 4
  | ldHlIndNn nn => exact ((keepsControl_memRead16 s nn).trans (keepsControl_setPair .hl _ _)).retire 3
  | ldIxIndNn nn => exact ((keepsControl_memRead16 s nn).trans (keepsControl_setIdx .ix _ _)).retire 4
  | ldIyIndNn nn => exact ((keepsControl_memRead16 s nn).trans (keepsControl_setIdx .iy _ _)).retire 4
  | popQq => exact ((keepsControl_pop16 s).trans (keepsControl_setPairQ _ _ _)).retire 1
  | ldIndNnHl | ldIndNnDd | ldIndNnIx | ldIndNnIy => exact (keepsControl_memWrite16 s _ _).retire _
  | pushQq | pushIx | pushIy => exact (keepsControl_push16 s _).retire _
  | popIx => exact ((keepsControl_pop16 s).trans (keepsControl_setIdx .ix _ _)).retire 2
  | popIy => exact ((keepsControl_pop16 s).trans (keepsControl_setIdx .iy _ _)).retire 2
  | exIndSpHl => exact ((keepsControl_exchangeTop s.main.hl s).trans (keepsControl_setPair .hl _ _)).retire 1
  | exIndSpIx => exact ((keepsControl_exchangeTop s.ix s).trans (keepsControl_setIdx .ix _ _)).retire 2
  | exIndSpIy => exact ((keepsControl_exchangeTop s.iy s).trans (keepsControl_setIdx .iy _ _)).retire 2
  | callNn | rstP => exact endsAt_call _ _ s
  | ret => exact endsAt_popPc s
  | reti | retn => exact endsAt_returnFromInt _ s
  | jrCc => exact .ite Iff.rfl (endsAt_next rfl rfl ⟨rfl, rfl, rfl, rfl⟩) ((KeepsControl.refl s).retire 2)
  | retCc => exact .ite Iff.rfl (endsAt_popPc (s.addCyc 6)).addCyc ((KeepsControl.refl s).retire 1)
  | callCcNn _ nn => exact .ite Iff.rfl (endsAt_call 3 nn (s.addCyc 7)).addCyc ((KeepsControl.refl s).retire 3)
  | jpCcNn cc nn => exact endsAt_execJpCcNn cc nn s
  | djnz e => exact endsAt_execDjnz e s
  | ldi | ldd => exact (keepsControl_blockLoad _ s).retire 2
  | cpi | cpd => exact (keepsControl_blockCompare _ s).retire 2
  | ini | ind => exact (keepsControl_blockIn _ s).retire 2
  | outi | outd => exact (keepsControl_blockOut _ s).retire 2
  | ldir | lddr => exact endsAt_of_repeats rfl rfl rfl (blockLoad_done_iff _ s) (keepsControl_blockLoad _ s)
  | cpir | cpdr => exact endsAt_of_repeats rfl rfl rfl (blockCompare_done_iff _ s) (keepsControl_blockCompare _ s)
  | inir | indr => exact endsAt_of_repeats rfl rfl rfl (blockIn_done_iff _ s) (keepsControl_blockIn _ s)
  | otir | otdr => exact endsAt_of_repeats rfl rfl rfl (blockOut_done_iff _ s) (keepsControl_blockOut _ s)
  | _ => exact endsAt_next rfl rfl ⟨rfl, rfl, rfl, rfl⟩

/-! ### The step (40_fetch_decode.md R130; 60_exceptions.md R541) -/

theorem Safe.onNext {o : Out} (h : Safe o) (g : State → State) : Safe (onNext g o) := by
  obtain ⟨t, rfl⟩ := h
  exact ⟨g t, rfl⟩

theorem stepInstruction_safe (s : State) : Safe (stepInstruction s) := by
  cases h : s.halted with
  | true => exact ⟨_, stepInstruction_of_halted h⟩
  | false =>
    rw [stepInstruction_of_running h]
    exact (exec_safe s.nextInstr s.fetched).onNext _

theorem irq_safe (nonMaskable : Bool) (data : Byte) (s : State) : Safe (irq nonMaskable data s) := by
  simp only [irq]
  split_ifs
  · exact ⟨_, rfl⟩
  · split
    · rw [enterMode0_eq_onNext]
      exact (exec_safe _ _).onNext _
    · exact ⟨_, rfl⟩
    · exact ⟨_, rfl⟩
  · exact ⟨_, rfl⟩

theorem perform_safe (call : HostCall) (s : State) : Safe (perform call s) := by
  cases call with
  | stepInstruction => exact stepInstruction_safe s
  | irq nonMaskable data => exact irq_safe nonMaskable data s
  | reset => exact ⟨_, rfl⟩

/-- Settles O9: no instruction stops the machine, and the calls of the host run at most one. -/
theorem everyStepAnswersNext : Obligations.EveryStepAnswersNext := by
  intro s
  cases h : s.schedule with
  | nil =>
    rw [step_of_schedule_nil h]
    exact stepInstruction_safe s
  | cons call rest =>
    rw [step_of_schedule_cons h]
    exact perform_safe call _

@[simp] theorem commit_cyc (s : State) (di ei : Bool) : (s.commit di ei).cyc = s.cyc := by rw [commit_frame]

/-- Settles O12: the fetch adds the base cost, the instruction its extra, and the end of the step returns the sum. -/
theorem stepReturnsItsTStates : Obligations.StepReturnsItsTStates := by
  intro s hrun hcalls
  obtain ⟨u, hu, -, hcyc, -⟩ := everyInstructionCompletes s.nextInstr s.fetched
  refine ⟨u.finishStep s.pendingDi s.pendingEi, ?step, rfl, ?returned⟩
  case step =>
    rw [step_of_schedule_nil hcalls, stepInstruction_of_running hrun, hu]
    rfl
  case returned => rw [finishStep_eq, commit_cyc, hcyc, fetched_cyc]

/-- Settles O6: the bytes at `PC` are those the fetch decodes, and a scheduled call is the one that is performed. -/
theorem stepRunsTheDecodedInstruction : Obligations.StepRunsTheDecodedInstruction := by
  refine ⟨fun s i rest t hrun hdec ht => ⟨?_, step_of_schedule_nil⟩, fun _ _ => ⟨rfl, fun _ _ => rfl⟩⟩
  rw [stepInstruction_of_running hrun, nextInstr_of_decode hdec, ht]
  rfl

/-- Settles O10: a halted tick writes the returned count alone. -/
theorem haltedTickChangesNothing : Obligations.HaltedTickChangesNothing := by
  intro s hhalted hcalls
  refine ⟨{ s with stepReturn := 1 }, ?_, rfl, fun x _ => by cases x <;> rfl, rfl, rfl, rfl, rfl, hcalls, rfl⟩
  rw [step_of_schedule_nil hcalls, stepInstruction_of_halted hhalted]

end Sys2Proof.Machine
end

section
/-! The 8-bit loads (41_load8.md): the frames of a register write and of a write of `PC`, then one rule for each of the three things a load
can do before it retires (write a register, load one from memory, store a byte). -/

namespace Sys2Proof.Machine

/-! ### Register writes -/

theorem Bank.get_set (b : Bank) (r r' : Reg8) (v : Byte) : (b.set r v).get r' = if r' = r then v else b.get r' := by
  cases r <;> cases r' <;> rfl

theorem Bank.set_f (b : Bank) (r : Reg8) (v : Byte) : (b.set r v).f = b.f := by cases r <;> rfl

theorem slot_regSlot (s : State) (r : Reg8) : s.slot (regSlot r) = (s.reg r).toNat := by cases r <;> rfl

/-- Writing a register leaves the other registers and the flags, so it leaves every slot but its own. -/
theorem sameSlots_setReg (s : State) (r : Reg8) (v : Byte) : SameSlots [regSlot r] s (s.setReg r v) := by
  have hreg (r' : Reg8) (h : regSlot r' ∉ [regSlot r]) : (s.setReg r v).slot (regSlot r') = s.slot (regSlot r') := by
    have hne : r' ≠ r := fun heq => h (by simp [heq])
    simp [slot_regSlot, State.reg, Bank.get_set, hne]
  have hflags : (s.setReg r v).flags = s.flags := congrArg unpackFlags (Bank.set_f s.main r v)
  intro x hx
  cases x with
  | a => exact hreg .a hx
  | b => exact hreg .b hx
  | c => exact hreg .c hx
  | d => exact hreg .d hx
  | e => exact hreg .e hx
  | h => exact hreg .h hx
  | l => exact hreg .l hx
  | fS | fZ | fY | fH | fX | fP | fN | fC => simp only [State.slot, hflags]
  | _ => rfl

theorem changed_setReg (s : State) (r : Reg8) (v : Byte) : Changed [regSlot r] [] s (s.setReg r v) :=
  changed_of_sameSlots (sameSlots_setReg s r v) ⟨rfl, rfl, rfl, rfl⟩ rfl rfl rfl

theorem changed_setPc (s : State) (v : Word) : Changed [.pc] [] s (s.setPc v) := by
  refine changed_of_sameSlots ?_ ⟨rfl, rfl, rfl, rfl⟩ rfl rfl rfl
  intro x hx
  cases x with
  | pc => exact absurd (List.mem_singleton.mpr rfl) hx
  | _ => rfl

theorem changed_loadReg (r : Reg8) (ea : Word) (s : State) :
    Changed [regSlot r] [.memRead ea (s.peek ea)] s (loadReg r ea s) :=
  (changed_memRead s ea).trans (changed_setReg (s.memRead ea).2 r (s.peek ea))

/-! ### What an instruction that retires completes with -/

/-- What was done before the end, with `PC` as it was, is the frame; the end writes `PC`. -/
theorem Changed.completes {i : Instr} {ws : List Slot} {ops : List BusOp} {s t : State} {len : Word} {post : State → Prop}
    (h : Changed ws ops s t) (hexec : exec i s = retire len t) (hpc : t.pc = s.pc) (hpost : post (t.setPc (s.pc + len))) :
    Completes i s (ws ++ [.pc]) ops post := by
  refine ⟨t.setPc (s.pc + len), by rw [hexec, retire_eq, hpc], ?_, hpost⟩
  simpa using h.trans (changed_setPc t (s.pc + len))

theorem completes_setReg {i : Instr} {r : Reg8} {v : Byte} {len : Word} {s : State}
    (hexec : exec i s = retire len (s.setReg r v)) :
    Completes i s [regSlot r, .pc] [] fun t => t.reg r = v ∧ t.pc = s.pc + len :=
  (changed_setReg s r v).completes hexec rfl (by simp [State.reg, Bank.get_set])

theorem completes_loadReg {i : Instr} {r : Reg8} {ea len : Word} {s : State}
    (hexec : exec i s = retire len (loadReg r ea s)) :
    Completes i s [regSlot r, .pc] [.memRead ea (s.peek ea)] fun t => t.reg r = s.peek ea ∧ t.pc = s.pc + len :=
  (changed_loadReg r ea s).completes hexec rfl (by simp [State.reg, loadReg_eq, Bank.get_set])

theorem completes_memWrite {i : Instr} {a len : Word} {v : Byte} {s : State} (hwf : s.mem.wf = true)
    (hexec : exec i s = retire len (s.memWrite a v)) :
    Completes i s [.pc] [.memWrite a v] fun t => t.pc = s.pc + len :=
  (changed_memWrite s a v hwf).completes hexec rfl rfl

/-- Settles O29: every load writes a register, loads one or stores a byte, and retires; the rule of each is above. -/
theorem load8 : Obligations.Load8 := by
  intro s r r' n nn
  refine ⟨?ldRR, ?ldRN, ?ldRIndHl, ?ldAIndBc, ?ldAIndDe, ?ldAIndNn, fun hwf => ?stores⟩
  case ldRR | ldRN => exact completes_setReg rfl
  case ldRIndHl => exact completes_loadReg rfl
  case ldAIndBc | ldAIndDe | ldAIndNn => exact completes_loadReg (r := .a) rfl
  case stores => refine ⟨?_, ?_, ?_, ?_, ?_⟩ <;> exact completes_memWrite hwf rfl

end Sys2Proof.Machine
end

section
/-! The 16-bit loads, the stack and the exchanges (42_load16_stack_exchange.md; 49_index.md R467 to R469): the frame and the read-back
of each 16-bit register write, the frame of each 16-bit access to memory, when a stored word reads back, then one rule for each access
that an instruction of these families makes before it retires. -/

namespace Sys2Proof.Machine

/-! ### Registers and flags from their slots, and back -/

theorem mkWord_inj {hi lo hi' lo' : Byte} : mkWord hi lo = mkWord hi' lo' ↔ hi = hi' ∧ lo = lo' := by
  constructor
  · intro h
    exact ⟨by simpa using congrArg wordHi h, by simpa using congrArg wordLo h⟩
  · rintro ⟨rfl, rfl⟩
    rfl

theorem toNat_bool_inj {g g' : Bool} : g.toNat = g'.toNat ↔ g = g' := by
  revert g g'
  decide

/-- `F` is its eight flags. -/
theorem SameSlots.f_eq {ws : List Slot} {s t : State} (h : SameSlots ws s t) (hws : ∀ x ∈ allFlags, x ∉ ws) :
    t.main.f = s.main.f := by
  have hslots : ∀ x ∈ allFlags, t.slot x = s.slot x := fun x hx => h x (hws x hx)
  simp only [allFlags, List.forall_mem_cons, State.slot, toNat_bool_inj] at hslots
  obtain ⟨hS, hZ, hY, hH, hX, hP, hN, hC, -⟩ := hslots
  have hflags : t.flags.pack = s.flags.pack := by simp only [Flags.pack, hS, hZ, hY, hH, hX, hP, hN, hC]
  simpa [State.flags] using hflags

theorem slot_eq_of_pairQ_eq {s t : State} {p : PairQ} (h : t.pairQ p = s.pairQ p) : ∀ x ∈ pairQSlots p, t.slot x = s.slot x := by
  cases p with
  | bc | de | hl =>
    obtain ⟨hhi, hlo⟩ := mkWord_inj.mp h
    simp [pairQSlots, State.slot, hhi, hlo]
  | af =>
    obtain ⟨ha, hf⟩ := mkWord_inj.mp h
    simp [pairQSlots, allFlags, State.slot, State.flags, ha, hf]

/-! ### 16-bit register writes -/

theorem changed_setFlags (s : State) (g : Flags) : Changed allFlags [] s (s.setFlags g) := by
  refine changed_of_sameSlots ?_ ⟨rfl, rfl, rfl, rfl⟩ rfl rfl rfl
  intro x hx
  cases x with
  | fS | fZ | fY | fH | fX | fP | fN | fC => exact absurd (by decide) hx
  | _ => rfl

/-- A pair is two registers, high and low, or `SP`. -/
theorem changed_setPair (s : State) (p : Pair) (v : Word) : Changed (pairSlots p) [] s (s.setPair p v) := by
  cases p with
  | bc => exact (changed_setReg s .b (wordHi v)).trans (changed_setReg _ .c (wordLo v))
  | de => exact (changed_setReg s .d (wordHi v)).trans (changed_setReg _ .e (wordLo v))
  | hl => exact (changed_setReg s .h (wordHi v)).trans (changed_setReg _ .l (wordLo v))
  | sp => exact changed_setSp s v

/-- The low byte of `AF` is the eight flags as they stand in it. -/
theorem setPairQ_af (s : State) (v : Word) :
    s.setPairQ .af v = (s.setReg .a (wordHi v)).setFlags (unpackFlags (wordLo v)) := by
  simp [State.setPairQ, State.setReg, State.setFlags, Bank.set]

theorem changed_setPairQ (s : State) (p : PairQ) (v : Word) : Changed (pairQSlots p) [] s (s.setPairQ p v) := by
  cases p with
  | bc => exact changed_setPair s .bc v
  | de => exact changed_setPair s .de v
  | hl => exact changed_setPair s .hl v
  | af =>
    rw [setPairQ_af]
    exact (changed_setReg s .a (wordHi v)).trans (changed_setFlags _ _)

theorem changed_setIdx (s : State) (x : Index) (v : Word) : Changed (indexSlots x) [] s (s.setIdx x v) := by
  refine changed_of_sameSlots ?_ (keepsControl_setIdx x v s).host (setIdx_mem s x v) (setIdx_bus s x v) (setIdx_hostAnswers s x v)
  intro y hy
  cases x with
  | ix =>
    cases y with
    | ixh | ixl => exact absurd (by decide) hy
    | _ => rfl
  | iy =>
    cases y with
    | iyh | iyl => exact absurd (by decide) hy
    | _ => rfl

@[simp] theorem pair_setPair (s : State) (p : Pair) (v : Word) : (s.setPair p v).pair p = v := by
  cases p <;> simp [State.pair, Bank.bc, Bank.de, Bank.hl]

@[simp] theorem pairQ_setPairQ (s : State) (p : PairQ) (v : Word) : (s.setPairQ p v).pairQ p = v := by
  cases p <;> simp [State.pairQ, State.setPairQ, Bank.bc, Bank.de, Bank.hl, Bank.af]

@[simp] theorem idx_setIdx (s : State) (x : Index) (v : Word) : (s.setIdx x v).idx x = v := by cases x <;> rfl

@[simp] theorem pair_setPc (s : State) (v : Word) (p : Pair) : (s.setPc v).pair p = s.pair p := by cases p <;> rfl

@[simp] theorem pairQ_setPc (s : State) (v : Word) (p : PairQ) : (s.setPc v).pairQ p = s.pairQ p := by cases p <;> rfl

@[simp] theorem idx_setPc (s : State) (v : Word) (x : Index) : (s.setPc v).idx x = s.idx x := by cases x <;> rfl

@[simp] theorem wordHi_hl (b : Bank) : wordHi b.hl = b.h := wordHi_mkWord b.h b.l

@[simp] theorem wordLo_hl (b : Bank) : wordLo b.hl = b.l := wordLo_mkWord b.h b.l

/-! ### The exchanges of the two banks -/

theorem changed_exchangeAf (s : State) : Changed ([.a, .sA, .sF] ++ allFlags) [] s (exchangeAf s) := by
  refine changed_of_sameSlots ?_ ⟨rfl, rfl, rfl, rfl⟩ rfl rfl rfl
  intro x hx
  cases x with
  | a | sA | sF | fS | fZ | fY | fH | fX | fP | fN | fC => exact absurd (by decide) hx
  | _ => rfl

theorem changed_exchangeBanks (s : State) :
    Changed [.b, .c, .d, .e, .h, .l, .sB, .sC, .sD, .sE, .sH, .sL] [] s (exchangeBanks s) := by
  refine changed_of_sameSlots ?_ ⟨rfl, rfl, rfl, rfl⟩ rfl rfl rfl
  intro x hx
  cases x with
  | b | c | d | e | h | l | sB | sC | sD | sE | sH | sL => exact absurd (by decide) hx
  | _ => rfl

/-! ### 16-bit accesses to memory -/

theorem changed_memRead16 (s : State) (a : Word) : Changed [] (read16Ops s a) s (s.memRead16 a).2 :=
  (changed_memRead s a).trans (changed_memRead (s.memRead a).2 (a + 1))

theorem changed_memWrite16 (s : State) (a v : Word) (hwf : s.mem.wf = true) :
    Changed [] (write16Ops a v) s (s.memWrite16 a v) :=
  (changed_memWrite s a (wordLo v) hwf).trans (changed_memWrite _ (a + 1) (wordHi v) (memWrite_wf s a (wordLo v) hwf))

/-- The operations of an exchange of `v` with the word on top of the stack (42_load16_stack_exchange.md R211; D9). -/
def exchangeOps (s : State) (v : Word) : List BusOp :=
  read16Ops s s.sp ++ [.memWrite (s.sp + 1) (wordHi v), .memWrite s.sp (wordLo v)]

theorem changed_exchangeTop (s : State) (v : Word) (hwf : s.mem.wf = true) :
    Changed [] (exchangeOps s v) s (exchangeTop v s).2 :=
  have high := changed_memWrite (s.memRead16 s.sp).2 (s.sp + 1) (wordHi v) hwf
  have low := changed_memWrite _ s.sp (wordLo v) (memWrite_wf (s.memRead16 s.sp).2 (s.sp + 1) (wordHi v) hwf)
  (changed_memRead16 s s.sp).trans (high.trans low)

/-! ### A stored word reads back -/

/-- The operations leave the word `v` at `a`. -/
def Wrote16 (ops : List BusOp) (a v : Word) : Prop := wrote ops a = some (wordLo v) ∧ wrote ops (a + 1) = some (wordHi v)

theorem wrote16_write16Ops (a v : Word) : Wrote16 (write16Ops a v) a v := by
  simp [Wrote16, write16Ops, wrote]

theorem sub_two_add_one (a : Word) : a - 2 + 1 = a - 1 := by bv_omega

theorem wrote16_pushOps (s : State) (v : Word) : Wrote16 (pushOps s v) (s.sp - 2) v := by
  rw [Wrote16, sub_two_add_one]
  simp [pushOps, wrote]

theorem wrote16_exchangeOps (s : State) (v : Word) : Wrote16 (exchangeOps s v) s.sp v := by
  simp [Wrote16, exchangeOps, read16Ops, wrote]

/-- Where the second address is no device's, the first read does not change what the second one answers. -/
theorem word_of_not_device {s : State} {a : Word} (ha : s.isDevice (a + 1) = false) :
    s.word a = mkWord (s.peek (a + 1)) (s.peek a) := by
  have hnext : s.peekNext a = s.peek (a + 1) := peek_of_mem_eq (memRead_mem s a) rfl ha
  rw [State.word, hnext]

theorem Changed.stored8 {ws : List Slot} {ops : List BusOp} {s t : State} {a : Word} {v : Byte} (h : Changed ws ops s t)
    (hops : wrote ops a = some v) : Stored8 t a v := by
  intro ht
  obtain ⟨-, ⟨hparams, -⟩, -, hpeek, -⟩ := h
  have hs : s.writable a = true := (writable_of_params_eq hparams a).symm.trans ht
  rw [hpeek a (isDevice_of_writable hs), hs, hops]
  rfl

theorem Changed.stored16 {ws : List Slot} {ops : List BusOp} {s t : State} {a v : Word} (h : Changed ws ops s t)
    (hops : Wrote16 ops a v) : Stored16 t a v := by
  intro hlow hhigh
  obtain ⟨hwroteLow, hwroteHigh⟩ := hops
  rw [word_of_not_device (isDevice_of_writable hhigh), h.stored8 hwroteLow hlow, h.stored8 hwroteHigh hhigh, mkWord_wordHi_wordLo]

theorem stored16_setPc {t : State} {a v w : Word} (h : Stored16 t a v) : Stored16 (t.setPc w) a v := h

/-! ### What an instruction that accesses a word completes with -/

theorem Completes.mono {i : Instr} {s : State} {ws ws' : List Slot} {ops : List BusOp} {post : State → Prop}
    (h : Completes i s ws ops post) (hw : ws ⊆ ws') : Completes i s ws' ops post := by
  obtain ⟨t, hexec, hchanged, hpost⟩ := h
  exact ⟨t, hexec, hchanged.mono hw, hpost⟩

theorem completes_setPair {i : Instr} {p : Pair} {v len : Word} {s : State} (hexec : exec i s = retire len (s.setPair p v)) :
    Completes i s (.pc :: pairSlots p) [] fun t => t.pair p = v ∧ t.pc = s.pc + len :=
  ((changed_setPair s p v).completes hexec (setPair_pc s p v) (by simp)).mono (by simp)

theorem completes_memRead16 {i : Instr} {p : Pair} {a len : Word} {s : State}
    (hexec : exec i s = retire len ((s.memRead16 a).2.setPair p (s.word a))) :
    Completes i s (.pc :: pairSlots p) (read16Ops s a) fun t => t.pair p = s.word a ∧ t.pc = s.pc + len := by
  have h := (changed_memRead16 s a).trans (changed_setPair _ p (s.word a))
  rw [List.append_nil] at h
  exact (h.completes hexec (setPair_pc _ p _) (by simp)).mono (by simp)

theorem completes_memWrite16 {i : Instr} {a v len : Word} {s : State} (hwf : s.mem.wf = true)
    (hexec : exec i s = retire len (s.memWrite16 a v)) :
    Completes i s [.pc] (write16Ops a v) fun t => Stored16 t a v ∧ t.pc = s.pc + len :=
  have h := changed_memWrite16 s a v hwf
  h.completes hexec rfl ⟨stored16_setPc (h.stored16 (wrote16_write16Ops a v)), rfl⟩

/-- A pop, then a register write that ends in `u`; that write leaves `SP` and `PC`. -/
theorem completes_pop16 {i : Instr} {ws : List Slot} {len : Word} {s u : State} {post : State → Prop}
    (hset : Changed ws [] s.pop16.2 u) (hexec : exec i s = retire len u) (hsp : u.sp = s.sp + 2) (hpc : u.pc = s.pc)
    (hpost : post (u.setPc (s.pc + len))) :
    Completes i s (.sp :: .pc :: ws) (read16Ops s s.sp) fun t => post t ∧ t.sp = s.sp + 2 ∧ t.pc = s.pc + len := by
  have h := (changed_pop16 s).trans hset
  rw [List.append_nil] at h
  exact (h.completes hexec hpc ⟨hpost, hsp, rfl⟩).mono (by simp)

theorem completes_popPair {i : Instr} {p : PairQ} {len : Word} {s : State}
    (hexec : exec i s = retire len (s.pop16.2.setPairQ p s.pop16.1)) :
    Completes i s (.sp :: .pc :: pairQSlots p) (read16Ops s s.sp) fun t =>
      t.pairQ p = s.word s.sp ∧ t.sp = s.sp + 2 ∧ t.pc = s.pc + len :=
  completes_pop16 (changed_setPairQ _ p _) hexec (by simp) (by simp [(keepsControl_pop16 s).pc]) (by simp)

theorem completes_popIndex {i : Instr} {x : Index} {len : Word} {s : State}
    (hexec : exec i s = retire len (s.pop16.2.setIdx x s.pop16.1)) :
    Completes i s (.sp :: .pc :: indexSlots x) (read16Ops s s.sp) fun t =>
      t.idx x = s.word s.sp ∧ t.sp = s.sp + 2 ∧ t.pc = s.pc + len :=
  completes_pop16 (changed_setIdx _ x _) hexec (by simp) (by simp [(keepsControl_pop16 s).pc]) (by simp)

theorem completes_push16 {i : Instr} {v len : Word} {s : State} (hwf : s.mem.wf = true)
    (hexec : exec i s = retire len (s.push16 v)) :
    Completes i s [.sp, .pc] (pushOps s v) fun t => t.sp = s.sp - 2 ∧ Stored16 t t.sp v ∧ t.pc = s.pc + len := by
  have h := changed_push16 s v hwf
  have hstored : Stored16 (s.push16 v) (s.push16 v).sp v := by
    rw [push16_sp]
    exact h.stored16 (wrote16_pushOps s v)
  exact h.completes hexec (keepsControl_push16 s v).pc ⟨push16_sp s v, stored16_setPc hstored, rfl⟩

/-- An exchange with the word on top of the stack, then a register write that ends in `u` and leaves `PC`. -/
theorem completes_exchangeTop {i : Instr} {ws : List Slot} {v len : Word} {s u : State} {post : State → Prop}
    (hwf : s.mem.wf = true) (hset : Changed ws [] (exchangeTop v s).2 u) (hexec : exec i s = retire len u) (hpc : u.pc = s.pc)
    (hpost : post (u.setPc (s.pc + len))) :
    Completes i s (ws ++ [.pc]) (exchangeOps s v) fun t => post t ∧ Stored16 t s.sp v ∧ t.pc = s.pc + len := by
  have h := (changed_exchangeTop s v hwf).trans hset
  rw [List.append_nil] at h
  exact h.completes hexec hpc ⟨hpost, stored16_setPc (h.stored16 (wrote16_exchangeOps s v)), rfl⟩

theorem completes_exchangeTopHl {i : Instr} {len : Word} {s : State} (hwf : s.mem.wf = true)
    (hexec : exec i s = retire len ((exchangeTop s.main.hl s).2.setPair .hl (exchangeTop s.main.hl s).1)) :
    Completes i s [.h, .l, .pc] (exchangeOps s s.main.hl) fun t =>
      t.main.hl = s.word s.sp ∧ Stored16 t s.sp s.main.hl ∧ t.pc = s.pc + len :=
  completes_exchangeTop hwf (changed_setPair _ .hl _) hexec rfl (pair_setPair _ .hl _)

theorem completes_exchangeTopIndex {i : Instr} {x : Index} {len : Word} {s : State} (hwf : s.mem.wf = true)
    (hexec : exec i s = retire len ((exchangeTop (s.idx x) s).2.setIdx x (exchangeTop (s.idx x) s).1)) :
    Completes i s (indexSlots x ++ [.pc]) (exchangeOps s (s.idx x)) fun t =>
      t.idx x = s.word s.sp ∧ Stored16 t s.sp (s.idx x) ∧ t.pc = s.pc + len :=
  completes_exchangeTop hwf (changed_setIdx _ x _) hexec (by simp [exchangeTop_eq]) (by simp [exchangeTop_eq])

/-! ### The statements -/

/-- Settles O30: each load writes a pair, reads or stores a word; the rule of each is above. -/
theorem load16 : Obligations.Load16 := by
  intro s dd nn
  refine ⟨completes_setPair rfl, ?ldHlIndNn, completes_memRead16 rfl, ?ldSpHl, fun hwf => ?stores⟩
  case ldHlIndNn => exact (completes_memRead16 (p := .hl) rfl).mono (by simp [pairSlots])
  case ldSpHl => exact (completes_setPair (p := .sp) rfl).mono (by simp [pairSlots])
  case stores => exact ⟨completes_memWrite16 hwf rfl, completes_memWrite16 hwf rfl⟩

/-- Settles O31: a pop is the frame of `changed_pop16` and a register write, a push the frame of `changed_push16` and a word that reads
back. -/
theorem pushAndPop : Obligations.PushAndPop := by
  intro s qq
  refine ⟨completes_popPair rfl, completes_popIndex (x := .ix) rfl, completes_popIndex (x := .iy) rfl, fun hwf => ?pushes⟩
  exact ⟨completes_push16 hwf rfl, completes_push16 hwf rfl, completes_push16 hwf rfl⟩

/-- Settles O32: the word read is the word stored, so of the slots the two write only `PC` ends with another value; and the one word
stored is the only change of memory. -/
theorem pushThenPopIsIdentity : Obligations.PushThenPopIsIdentity := by
  intro s qq hwf hhigh hlow
  obtain ⟨t, hpush, hst, htsp, hstored, -⟩ := completes_push16 (i := .pushQq qq) hwf rfl
  obtain ⟨u, hpop, htu, hword, husp, -⟩ := completes_popPair (i := .popQq qq) (s := t) rfl
  have hsp : u.sp = s.sp := by rw [husp, htsp, BitVec.sub_add_cancel]
  have hpair : u.pairQ qq = s.pairQ qq := by
    obtain ⟨-, ⟨hparams, -⟩, -⟩ := hst
    have hmap := writable_of_params_eq hparams
    rw [htsp, Stored16, hmap, hmap, sub_two_add_one] at hstored
    rw [hword, htsp, hstored hlow hhigh]
  obtain ⟨hslots, -, -, hpeek, -⟩ := hst.trans htu
  have hsame : SameSlots [.pc] s u := by
    intro x hx
    by_cases hxq : x ∈ pairQSlots qq
    · exact slot_eq_of_pairQ_eq hpair x hxq
    · by_cases hxsp : x = .sp
      · subst hxsp
        exact congrArg BitVec.toNat hsp
      · exact hslots x (by simp_all)
  refine ⟨t, u, hpush, hpop, hsame, hsame.f_eq (by decide), ?memory⟩
  case memory =>
    intro a ha hne hne'
    have hwrote : wrote (pushOps s (s.pairQ qq) ++ read16Ops t t.sp) a = none := by
      simpa [wrote, pushOps, read16Ops] using And.intro hne'.symm hne.symm
    rw [hpeek a ha, hwrote, Option.getD_none, ite_self]

/-- Settles O33: the exchanges of registers are register writes; those with `(SP)` read the word, store the register's, and then write the
register. -/
theorem exchanges : Obligations.Exchanges := by
  intro s
  refine ⟨?exDeHl, ?exAfAf, ?exx, fun hwf => ⟨?exIndSpHl, ?exIndSpIx, ?exIndSpIy⟩⟩
  case exDeHl =>
    have h := (changed_setPair s .de s.main.hl).trans (changed_setPair _ .hl s.main.de)
    exact h.completes rfl rfl ⟨pair_setPair s .de s.main.hl, pair_setPair _ .hl s.main.de, rfl⟩
  case exAfAf => exact ((changed_exchangeAf s).completes rfl rfl ⟨rfl, rfl, rfl⟩).mono (by simp [allFlags])
  case exx => exact (changed_exchangeBanks s).completes rfl rfl ⟨rfl, rfl, rfl, rfl, rfl, rfl, rfl⟩
  case exIndSpHl =>
    have h := completes_exchangeTopHl (i := .exIndSpHl) hwf rfl
    rwa [exchangeOps, wordHi_hl, wordLo_hl] at h
  case exIndSpIx => exact completes_exchangeTopIndex (x := .ix) hwf rfl
  case exIndSpIy => exact completes_exchangeTopIndex (x := .iy) hwf rfl

end Sys2Proof.Machine
end

section
/-! What the 8-bit arithmetic of 43_alu8.md writes: `F`, or some flags of it; `A` and `F`; a half of an index register; a place that is
read and written back (R236, R237; 49_index.md R483, R484, R495 to R498). -/

namespace Sys2Proof.Machine

/-! ### Completion -/

theorem Completes.imp {i : Instr} {s : State} {ws : List Slot} {ops : List BusOp} {post post' : State → Prop}
    (h : Completes i s ws ops post) (himp : ∀ t, post t → post' t) : Completes i s ws ops post' := by
  obtain ⟨t, hexec, hchanged, hpost⟩ := h
  exact ⟨t, hexec, hchanged, himp t hpost⟩

/-- A slot that holds what it held was not changed. -/
theorem Changed.narrow {ws ws' : List Slot} {ops : List BusOp} {s t : State} (h : Changed ws ops s t)
    (hkept : ∀ x ∈ ws, x ∉ ws' → t.slot x = s.slot x) : Changed ws' ops s t := by
  obtain ⟨hslot, hrest⟩ := h
  refine ⟨fun x hx => ?_, hrest⟩
  by_cases hw : x ∈ ws
  · exact hkept x hw hx
  · exact hslot x hw

/-! ### Writes of flags, with and without `A` -/

@[simp] theorem flags_setFlags (s : State) (g : Flags) : (s.setFlags g).flags = g := unpack_pack g

@[simp] theorem flags_setAF (s : State) (q : Byte × Flags) : (s.setAF q).flags = q.2 := unpack_pack q.2

@[simp] theorem flags_setPc (s : State) (v : Word) : (s.setPc v).flags = s.flags := rfl

@[simp] theorem flags_setReg (s : State) (r : Reg8) (v : Byte) : (s.setReg r v).flags = s.flags :=
  congrArg unpackFlags (Bank.set_f s.main r v)

theorem setAF_eq (s : State) (q : Byte × Flags) : s.setAF q = (s.setReg .a q.1).setFlags q.2 := rfl

/-- A write of `F` changes the flags `ws` alone if every other flag is written as it was. -/
theorem changed_setFlags_of_kept {ws : List Slot} {s : State} {g : Flags}
    (hkept : ∀ x ∈ allFlags, x ∉ ws → (s.setFlags g).slot x = s.slot x) : Changed ws [] s (s.setFlags g) :=
  (changed_setFlags s g).narrow hkept

theorem changed_setFlagsButC {s : State} {g : Flags} (hc : g.c = s.flags.c) : Changed flagsButC [] s (s.setFlags g) :=
  changed_setFlags_of_kept (by simp [allFlags, flagsButC, State.slot, hc])

theorem changed_setAF (s : State) (q : Byte × Flags) : Changed (.a :: allFlags) [] s (s.setAF q) :=
  (changed_setReg s .a q.1).trans (changed_setFlags _ q.2)

theorem changed_setAF_of_kept {ws : List Slot} {s : State} {q : Byte × Flags}
    (hkept : ∀ x ∈ allFlags, x ∉ ws → (s.setAF q).slot x = s.slot x) : Changed (.a :: ws) [] s (s.setAF q) := by
  refine (changed_setAF s q).narrow fun x hx hw => ?_
  obtain ⟨hxa, hxws⟩ := List.ne_and_not_mem_of_not_mem_cons hw
  exact hkept x (List.mem_of_ne_of_mem hxa hx) hxws

theorem completes_setFlags {i : Instr} {ws : List Slot} {g : Flags} {len : Word} {s : State}
    (hexec : exec i s = retire len (s.setFlags g)) (hkept : ∀ x ∈ allFlags, x ∉ ws → (s.setFlags g).slot x = s.slot x) :
    Completes i s (.pc :: ws) [] fun t => t.flags = g ∧ t.pc = s.pc + len :=
  ((changed_setFlags_of_kept hkept).completes hexec rfl ⟨by simp, rfl⟩).mono (by simp)

theorem completes_setAF {i : Instr} {ws : List Slot} {q : Byte × Flags} {len : Word} {s : State}
    (hexec : exec i s = retire len (s.setAF q)) (hkept : ∀ x ∈ allFlags, x ∉ ws → (s.setAF q).slot x = s.slot x) :
    Completes i s (.a :: .pc :: ws) [] fun t => t.main.a = q.1 ∧ t.flags = q.2 ∧ t.pc = s.pc + len :=
  ((changed_setAF_of_kept hkept).completes hexec rfl ⟨rfl, by simp, rfl⟩).mono (by simp)

/-! ### Halves of the index registers -/

@[simp] theorem half_setHalf (s : State) (x : Index) (h : Half) (v : Byte) : (s.setHalf x h v).half x h = v := by
  cases h <;> simp [State.setHalf, State.half]

theorem changed_setHalf (s : State) (x : Index) (h : Half) (v : Byte) : Changed [halfSlot x h] [] s (s.setHalf x h v) := by
  cases h with
  | high | low => exact (changed_setIdx s x _).narrow (by cases x <;> simp [indexSlots, halfSlot, State.slot, State.idx])

/-! ### Places (20_memory.md R72) -/

/-- `s` after the data read of the place and the write of `v` to it, a memory place's read first. -/
def Place.rewrite (p : Place) (v : Byte) (s : State) : State :=
  match p with
  | .reg r => s.setReg r v
  | .indHl => (s.memRead s.main.hl).2.memWrite s.main.hl v
  | .half x h => s.setHalf x h v
  | .indexed x d => (s.memRead (s.indexed x d)).2.memWrite (s.indexed x d) v
  | .indexedCopy x d r => ((s.memRead (s.indexed x d)).2.memWrite (s.indexed x d) v).setReg r v

theorem changed_readWrite (s : State) (a : Word) (v : Byte) (hwf : s.mem.wf = true) :
    Changed [] [.memRead a (s.peek a), .memWrite a v] s ((s.memRead a).2.memWrite a v) :=
  (changed_memRead s a).trans (changed_memWrite (s.memRead a).2 a v hwf)

theorem Place.changed_rewrite (p : Place) (v : Byte) (s : State) (hwf : s.mem.wf = true) :
    Changed p.slots (p.reads s ++ p.writes s v) s (p.rewrite v s) := by
  cases p with
  | reg r => exact changed_setReg s r v
  | indHl => exact changed_readWrite s s.main.hl v hwf
  | half x h => exact changed_setHalf s x h v
  | indexed x d => exact changed_readWrite s (s.indexed x d) v hwf
  | indexedCopy x d r => exact (changed_readWrite s (s.indexed x d) v hwf).trans (changed_setReg _ r v)

theorem Place.holds_rewrite (p : Place) (v : Byte) (s : State) (hwf : s.mem.wf = true) : p.Holds s (p.rewrite v s) v := by
  have h := p.changed_rewrite v s hwf
  cases p with
  | reg r => simp [Place.Holds, Place.rewrite, State.reg, Bank.get_set]
  | indHl => exact h.stored8 (by simp [Place.reads, Place.writes, wrote])
  | half x hl => exact half_setHalf s x hl v
  | indexed x d => exact h.stored8 (by simp [Place.reads, Place.writes, wrote])
  | indexedCopy x d r =>
    refine ⟨h.stored8 (by simp [Place.reads, Place.writes, wrote]), ?_⟩
    simp [Place.rewrite, State.reg, Bank.get_set]

theorem Place.holds_setFlags {p : Place} {v : Byte} {s t : State} (h : p.Holds s t v) (g : Flags) :
    p.Holds s (t.setFlags g) v := by
  cases p with
  | reg r => cases r <;> exact h
  | half x _ => cases x <;> exact h
  | indexedCopy _ _ r => cases r <;> exact h
  | _ => exact h

theorem Place.holds_setPc {p : Place} {v : Byte} {s t : State} (h : p.Holds s t v) (a : Word) : p.Holds s (t.setPc a) v := by
  cases p with
  | half x _ => cases x <;> exact h
  | _ => exact h

@[simp] theorem Place.rewrite_pc (p : Place) (v : Byte) (s : State) : (p.rewrite v s).pc = s.pc := by
  cases p <;> simp [Place.rewrite]

@[simp] theorem Place.rewrite_flags (p : Place) (v : Byte) (s : State) : (p.rewrite v s).flags = s.flags := by
  cases p <;> simp [Place.rewrite, State.flags, Bank.set_f]

theorem completes_rewrite {i : Instr} {p : Place} {v : Byte} {g : Flags} {len : Word} {s : State} (hwf : s.mem.wf = true)
    (hexec : exec i s = retire len ((p.rewrite v s).setFlags g)) (hc : g.c = s.flags.c) :
    Completes i s (p.slots ++ .pc :: flagsButC) (p.reads s ++ p.writes s v) fun t =>
      p.Holds s t v ∧ t.flags = g ∧ t.pc = s.pc + len := by
  have hflags : Changed flagsButC [] (p.rewrite v s) ((p.rewrite v s).setFlags g) := changed_setFlagsButC (by simpa using hc)
  have h := (p.changed_rewrite v s hwf).trans hflags
  rw [List.append_nil] at h
  have hholds := Place.holds_setPc (Place.holds_setFlags (p.holds_rewrite v s hwf) g) (s.pc + len)
  exact (h.completes hexec (by simp) ⟨hholds, by simp, rfl⟩).mono (by simp [List.subset_def]; tauto)

/-! ### Source operands -/

/-- `s` after the data read of the operand, if it is one in memory. -/
def Source.readFrom (o : Source) (s : State) : State :=
  match o with
  | .indHl => (s.memRead s.main.hl).2
  | .indexed x d => (s.memRead (s.indexed x d)).2
  | _ => s

theorem Source.changed_readFrom (o : Source) (s : State) : Changed [] (o.reads s) s (o.readFrom s) := by
  have hrefl : Changed [] [] s s := changed_of_sameSlots (fun _ _ => rfl) ⟨rfl, rfl, rfl, rfl⟩ rfl rfl rfl
  cases o with
  | indHl => exact changed_memRead s s.main.hl
  | indexed x d => exact changed_memRead s (s.indexed x d)
  | _ => exact hrefl

@[simp] theorem Source.readFrom_main (o : Source) (s : State) : (o.readFrom s).main = s.main := by cases o <;> rfl

@[simp] theorem Source.readFrom_flags (o : Source) (s : State) : (o.readFrom s).flags = s.flags := by cases o <;> rfl

@[simp] theorem Source.readFrom_pc (o : Source) (s : State) : (o.readFrom s).pc = s.pc := by cases o <;> rfl

/-- All seventy-two accumulator operations: read the operand, operate, retire (43_alu8.md section 2; 49_index.md). -/
theorem exec_aluInstr (op : AluOp) (o : Source) (s : State) :
    exec (aluInstr op o) s = retire o.length (aluA op (o.value s) (o.readFrom s)) := by
  cases o with
  | reg | imm | indHl => cases op <;> rfl
  | half x h => cases x <;> cases h <;> cases op <;> rfl
  | indexed x => cases x <;> cases op <;> rfl

/-- Every operation but `CP` puts its kernel's result `q` in `A` and `F`. -/
theorem completes_aluInstr {op : AluOp} {o : Source} {s : State} {q : Byte × Flags}
    (hkernel : aluA op (o.value s) (o.readFrom s) = (o.readFrom s).setAF q) :
    Completes (aluInstr op o) s (.a :: .pc :: allFlags) (o.reads s) fun t =>
      t.main.a = q.1 ∧ t.flags = q.2 ∧ t.pc = s.pc + o.length := by
  have h := (o.changed_readFrom s).trans (changed_setAF (o.readFrom s) q)
  rw [List.append_nil] at h
  have hexec := (exec_aluInstr op o s).trans (congrArg (retire o.length) hkernel)
  exact (h.completes hexec (by simp) ⟨rfl, by simp, rfl⟩).mono (by simp [allFlags])

theorem completes_cpInstr (o : Source) (s : State) :
    Completes (aluInstr .cp o) s (.pc :: allFlags) (o.reads s) fun t =>
      t.flags = cp8 s.main.a (o.value s) ∧ t.pc = s.pc + o.length := by
  have h := (o.changed_readFrom s).trans (changed_setFlags (o.readFrom s) (cp8 s.main.a (o.value s)))
  rw [List.append_nil] at h
  have hexec := exec_aluInstr .cp o s
  rw [aluA, Source.readFrom_main] at hexec
  exact (h.completes hexec (by simp) ⟨by simp, rfl⟩).mono (by simp [allFlags])

end Sys2Proof.Machine
end

section
/-! The kernels of 43_alu8.md as numbers (R230 to R237, R267, R268): sums, differences, carries, signed overflow, decimal digits. -/

namespace Sys2Proof.Machine

/-! ### Bytes as numbers -/

theorem getLsbD_seven (v : Byte) : v.getLsbD 7 = decide (128 ≤ v.toNat) := BitVec.msb_eq_decide v

theorem byte_toInt (v : Byte) : v.toInt = if v.toNat < 128 then (v.toNat : Int) else v.toNat - 256 := by
  rw [BitVec.toInt_eq_toNat_cond]
  split_ifs <;> omega

/-! ### Addition and subtraction -/

theorem add8_toNat (a x : Byte) (c : Bool) : (add8 a x c).1.toNat = (a.toNat + x.toNat + c.toNat) % 256 :=
  BitVec.toNat_ofNat ..

theorem add8_szyx (a x : Byte) (c : Bool) : SzyxFrom (add8 a x c).1 (add8 a x c).2 := ⟨rfl, beq_iff_eq, rfl, rfl⟩

theorem add8_h (a x : Byte) (c : Bool) : (add8 a x c).2.h = true ↔ a.toNat % 16 + x.toNat % 16 + c.toNat > 15 := decide_eq_true_iff

theorem add8_c (a x : Byte) (c : Bool) : (add8 a x c).2.c = true ↔ a.toNat + x.toNat + c.toNat > 255 := decide_eq_true_iff

theorem add8_p (a x : Byte) (c : Bool) :
    (add8 a x c).2.p = true ↔ a.getLsbD 7 = x.getLsbD 7 ∧ a.getLsbD 7 ≠ (add8 a x c).1.getLsbD 7 := by
  simp [add8]

/-- Operands of one sign whose sum has the other: just then the signed sum does not fit (43_alu8.md R230). -/
theorem add8_p_iff_signedOverflow (a x : Byte) (c : Bool) :
    (add8 a x c).2.p = true ↔ SignedOverflow 8 (a.toInt + x.toInt + c.toNat) := by
  have hr := add8_toNat a x c
  have hc := Bool.toNat_le c
  have hp : (add8 a x c).2.p = true ↔
      (128 ≤ a.toNat ↔ 128 ≤ x.toNat) ∧ ¬(128 ≤ a.toNat ↔ 128 ≤ (add8 a x c).1.toNat) := by
    rw [add8_p, ne_eq, getLsbD_seven, getLsbD_seven, getLsbD_seven, decide_eq_decide, decide_eq_decide]
  rw [hp, hr, SignedOverflow, byte_toInt, byte_toInt]
  split_ifs <;> omega

theorem sub8_toNat (a x : Byte) (c : Bool) : ((sub8 a x c).1.toNat : Int) = ((a.toNat : Int) - x.toNat - c.toNat) % 256 := by
  simp only [sub8, BitVec.toNat_ofInt]
  omega

theorem sub8_h (a x : Byte) (c : Bool) : (sub8 a x c).2.h = true ↔ a.toNat % 16 < x.toNat % 16 + c.toNat := by
  simp only [sub8, decide_eq_true_eq]
  omega

theorem sub8_c (a x : Byte) (c : Bool) : (sub8 a x c).2.c = true ↔ a.toNat < x.toNat + c.toNat := by
  simp only [sub8, decide_eq_true_eq]
  omega

theorem sub8_p (a x : Byte) (c : Bool) :
    (sub8 a x c).2.p = true ↔ a.getLsbD 7 ≠ x.getLsbD 7 ∧ a.getLsbD 7 ≠ (sub8 a x c).1.getLsbD 7 := by
  simp [sub8]

/-- Operands of unlike signs whose difference has not the sign of `A` (43_alu8.md R231). -/
theorem sub8_p_iff_signedOverflow (a x : Byte) (c : Bool) :
    (sub8 a x c).2.p = true ↔ SignedOverflow 8 (a.toInt - x.toInt - c.toNat) := by
  have hr := sub8_toNat a x c
  have hc := Bool.toNat_le c
  have hp : (sub8 a x c).2.p = true ↔
      ¬(128 ≤ a.toNat ↔ 128 ≤ x.toNat) ∧ ¬(128 ≤ a.toNat ↔ 128 ≤ (sub8 a x c).1.toNat) := by
    rw [sub8_p, ne_eq, ne_eq, getLsbD_seven, getLsbD_seven, getLsbD_seven, decide_eq_decide, decide_eq_decide]
  rw [hp, SignedOverflow, byte_toInt, byte_toInt]
  split_ifs <;> omega

/-- The flags of a difference but `X` and `Y`, which `SUB` and `CP` take from different bytes. -/
theorem sub8_subFlags (a x : Byte) (c : Bool) (xy : Byte) :
    SubFlags a x c.toNat xy { (sub8 a x c).2 with x := xy.getLsbD 3, y := xy.getLsbD 5 } :=
  ⟨rfl, beq_iff_eq, rfl, rfl, sub8_h a x c, sub8_p_iff_signedOverflow a x c, rfl, sub8_c a x c⟩

/-! Of the 256 differences `0 - a`, one overflows and one does not borrow (43_alu8.md R269). -/

theorem sub8_zero_h (a : Byte) : (sub8 0 a false).2.h = true ↔ a.toNat % 16 ≠ 0 := (sub8_h 0 a false).trans Nat.pos_iff_ne_zero

theorem sub8_zero_c (a : Byte) : (sub8 0 a false).2.c = true ↔ a ≠ 0 := by
  rw [sub8_c, ne_eq, ← BitVec.toNat_inj]
  exact Nat.pos_iff_ne_zero

theorem sub8_zero_p (a : Byte) : (sub8 0 a false).2.p = true ↔ a = 0x80 := by
  have hzero : (0 : Byte).toInt = 0 := rfl
  have hmin : (0x80 : Byte).toNat = 128 := rfl
  rw [sub8_p_iff_signedOverflow, SignedOverflow, ← BitVec.toNat_inj, hzero, hmin, byte_toInt, Bool.toNat_false]
  split_ifs <;> omega

/-! ### Logic -/

theorem logicFlags_spec (r : Byte) (h : Bool) : LogicFlags r h (logicFlags r h) :=
  ⟨⟨rfl, beq_iff_eq, rfl, rfl⟩, rfl, parity_eq_true_iff r, rfl, rfl⟩

/-! ### Increment and decrement -/

theorem szyxFrom_spec (v : Byte) (g : Flags) : SzyxFrom v (szyxFrom v g) := ⟨rfl, beq_iff_eq, rfl, rfl⟩

theorem inc8_flags (x : Byte) (g : Flags) : let q := inc8 x g
    SzyxFrom q.1 q.2 ∧ (q.2.h = true ↔ x.toNat % 16 = 15) ∧ (q.2.p = true ↔ x = 0x7F) ∧ q.2.n = false :=
  ⟨szyxFrom_spec _ g, beq_iff_eq, beq_iff_eq, rfl⟩

theorem dec8_flags (x : Byte) (g : Flags) : let q := dec8 x g
    SzyxFrom q.1 q.2 ∧ (q.2.h = true ↔ x.toNat % 16 = 0) ∧ (q.2.p = true ↔ x = 0x80) ∧ q.2.n = true :=
  ⟨szyxFrom_spec _ g, beq_iff_eq, beq_iff_eq, rfl⟩

/-! ### Decimal adjustment -/

/-- What `DAA` adds, or subtracts after a subtraction (43_alu8.md R267; D19). -/
def decimalFix (a : Byte) (g : Flags) : Int :=
  (if g.h = true ∨ a.toNat % 16 > 9 then 6 else 0) + (if g.c = true ∨ a.toNat > 0x99 then 0x60 else 0)

theorem daa8_result (a : Byte) (g : Flags) :
    (daa8 a g).1 = BitVec.ofInt 8 (if g.n = true then (a.toNat : Int) - decimalFix a g else a.toNat + decimalFix a g) := by
  simp [daa8, decimalFix]

theorem daa8_szyx (a : Byte) (g : Flags) : SzyxFrom (daa8 a g).1 (daa8 a g).2 := szyxFrom_spec _ g

theorem daa8_c (a : Byte) (g : Flags) : (daa8 a g).2.c = true ↔ g.c = true ∨ a.toNat > 0x99 := by
  simp [daa8]

/-- The byte writes the last two decimal digits of `n`, and the flag `C` says that `carry` holds. -/
def DecimalResult (q : Byte × Flags) (n : Nat) (carry : Prop) : Prop :=
  Bcd q.1 ∧ bcdValue q.1 = n % 100 ∧ (q.2.c = true ↔ carry)

theorem decimalResult_of_digits {q : Byte × Flags} {n : Nat} {carry : Prop}
    (hdigits : q.1.toNat = 16 * (n / 10 % 10) + n % 10) (hc : q.2.c = true ↔ carry) : DecimalResult q n carry := by
  refine ⟨?_, ?_, hc⟩
  · rw [Bcd]
    omega
  · rw [bcdValue]
    omega

/-- `DAA` on a sum of packed decimal bytes: `l` and `k` are the sums of the low and of the high digits, the carry in with the low ones.
The low digit is corrected from `l = 10` on, the high one from a sum of 100 on. -/
theorem daa8_of_digitSums {r : Byte} {g : Flags} {k l : Nat} (hk : k ≤ 18) (hl : l ≤ 19) (hr : r.toNat = (16 * k + l) % 256)
    (hh : g.h = true ↔ l > 15) (hc : g.c = true ↔ 16 * k + l > 255) (hn : g.n = false) :
    DecimalResult (daa8 r g) (10 * k + l) (10 * k + l ≥ 100) := by
  have hlow : (g.h = true ∨ r.toNat % 16 > 9) ↔ l ≥ 10 := by rw [hh]; omega
  have hhigh : (g.c = true ∨ r.toNat > 0x99) ↔ 10 * k + l ≥ 100 := by rw [hc]; omega
  refine decimalResult_of_digits ?_ ((daa8_c r g).trans hhigh)
  simp only [daa8_result, decimalFix, hn, hlow, hhigh, BitVec.toNat_ofInt, Bool.false_eq_true, if_false]
  split_ifs <;> omega

/-- `DAA` on a difference `n - 200` of packed decimal bytes: `l` and `k` are the differences of the low and of the high digits, the borrow
in with the low ones. Each digit is corrected if it borrows. -/
theorem daa8_of_digitDifferences {r : Byte} {g : Flags} {k l : Int} {n : Nat} (hk : -9 ≤ k ∧ k ≤ 9) (hl : -10 ≤ l ∧ l ≤ 9)
    (hr : (r.toNat : Int) = (16 * k + l) % 256) (hh : g.h = true ↔ l < 0) (hc : g.c = true ↔ 16 * k + l < 0) (hn : g.n = true)
    (hvalue : (n : Int) = 10 * k + l + 200) : DecimalResult (daa8 r g) n (n < 200) := by
  have hlow : (g.h = true ∨ r.toNat % 16 > 9) ↔ l < 0 := by rw [hh]; omega
  have hhigh : (g.c = true ∨ r.toNat > 0x99) ↔ n < 200 := by rw [hc]; omega
  have hbyte : (r.toNat : Int) = 16 * k + l + if n < 200 then 256 else 0 := by split_ifs <;> omega
  have htens : ((n / 10 % 10 : Nat) : Int) = k + (if l < 0 then -1 else 0) + if n < 200 then 10 else 0 := by split_ifs <;> omega
  have hunits : ((n % 10 : Nat) : Int) = l + if l < 0 then 10 else 0 := by split_ifs <;> omega
  refine decimalResult_of_digits ?_ ((daa8_c r g).trans hhigh)
  simp only [daa8_result, decimalFix, hn, hlow, hhigh, BitVec.toNat_ofInt, if_true]
  split_ifs at hbyte htens hunits ⊢ <;> omega

theorem daa8_add8 {a x : Byte} (c : Bool) (ha : Bcd a) (hx : Bcd x) :
    let sum := bcdValue a + bcdValue x + c.toNat
    DecimalResult (daa8 (add8 a x c).1 (add8 a x c).2) sum (sum ≥ 100) := by
  obtain ⟨halow, hahigh⟩ := ha
  obtain ⟨hxlow, hxhigh⟩ := hx
  have hc := Bool.toNat_le c
  have hr := add8_toNat a x c
  have hsum : bcdValue a + bcdValue x + c.toNat =
      10 * (a.toNat / 16 + x.toNat / 16) + (a.toNat % 16 + x.toNat % 16 + c.toNat) := by
    simp only [bcdValue]
    omega
  rw [hsum]
  exact daa8_of_digitSums (by omega) (by omega) (by omega) (add8_h a x c) ((add8_c a x c).trans (by omega)) rfl

theorem daa8_sub8 {a x : Byte} (c : Bool) (ha : Bcd a) (hx : Bcd x) :
    let difference := bcdValue a + 200 - bcdValue x - c.toNat
    DecimalResult (daa8 (sub8 a x c).1 (sub8 a x c).2) difference (difference < 200) := by
  obtain ⟨halow, hahigh⟩ := ha
  obtain ⟨hxlow, hxhigh⟩ := hx
  have hc := Bool.toNat_le c
  have hr := sub8_toNat a x c
  exact daa8_of_digitDifferences (k := (a.toNat / 16 : Nat) - (x.toNat / 16 : Nat))
    (l := (a.toNat % 16 : Nat) - (x.toNat % 16 : Nat) - c.toNat) (by omega) (by omega) (by omega)
    ((sub8_h a x c).trans (by omega)) ((sub8_c a x c).trans (by omega)) rfl (by simp only [bcdValue]; omega)

end Sys2Proof.Machine
end

section
/-! The statements about 8-bit arithmetic and logic (43_alu8.md): for each operation, what its form completes with and what its kernel
computes. -/

namespace Sys2Proof.Machine

/-! ### Addition, subtraction and logic -/

/-- Settles O34: both operations are the one kernel, with carry in 0 or `C`. -/
theorem addAndAdc : Obligations.AddAndAdc := by
  intro op o s hop a x c
  obtain ⟨cin, hcin, hkernel⟩ : ∃ cin : Bool, cin.toNat = c ∧ aluA op x (o.readFrom s) = (o.readFrom s).setAF (add8 a x cin) := by
    obtain rfl | rfl := hop
    · exact ⟨false, rfl, by simp [aluA, a]⟩
    · exact ⟨s.flags.c, rfl, by simp [aluA, a]⟩
  refine (completes_aluInstr hkernel).imp ?_
  rintro t ⟨ha, hg, hpc⟩
  rw [ha, hg, ← hcin]
  exact ⟨add8_toNat a x cin, add8_szyx a x cin, add8_h a x cin, add8_p a x cin, add8_p_iff_signedOverflow a x cin, rfl,
    add8_c a x cin, hpc⟩

/-- `SUB` and `SBC`, of which `c` is the borrow in. -/
theorem completes_sub8 {op : AluOp} {o : Source} {s : State} {c : Bool}
    (hkernel : aluA op (o.value s) (o.readFrom s) = (o.readFrom s).setAF (sub8 s.main.a (o.value s) c)) :
    let diff : Byte := BitVec.ofInt 8 ((s.main.a.toNat : Int) - (o.value s).toNat - c.toNat)
    Completes (aluInstr op o) s (.a :: .pc :: allFlags) (o.reads s) fun t =>
      t.main.a = diff ∧ SubFlags s.main.a (o.value s) c.toNat diff t.flags ∧ t.pc = s.pc + o.length := by
  refine (completes_aluInstr hkernel).imp ?_
  rintro t ⟨ha, hg, hpc⟩
  rw [ha, hg]
  exact ⟨rfl, sub8_subFlags .., hpc⟩

/-- Settles O35: `CP` is the flags of `SUB` with `X` and `Y` of the operand, `NEG` the subtraction from 0. -/
theorem subSbcCpAndNeg : Obligations.SubSbcCpAndNeg := by
  intro o s y
  refine ⟨completes_sub8 (c := false) (by simp [aluA]), completes_sub8 (c := s.flags.c) (by simp [aluA]), ?cp, ?neg⟩
  case cp =>
    refine (completes_cpInstr o s).imp ?_
    rintro t ⟨hg, hpc⟩
    rw [hg]
    exact ⟨sub8_subFlags s.main.a (o.value s) false (o.value s), hpc⟩
  case neg =>
    refine (completes_setAF (q := sub8 0 s.main.a false) rfl fun _ hx hws => absurd hx hws).imp ?_
    rintro t ⟨ha, hg, hpc⟩
    have hresult : (sub8 0 s.main.a false).1 = BitVec.ofInt 8 (-(s.main.a.toNat : Int)) := by simp [sub8]
    rw [ha, hg]
    exact ⟨hresult, ⟨rfl, beq_iff_eq, rfl, rfl⟩, sub8_zero_h _, sub8_zero_p _, rfl, sub8_zero_c _, hpc⟩

/-- An operation bit by bit: `f` on the bytes is `b` on each of their bits. -/
theorem completes_logic {op : AluOp} {o : Source} {s : State} {f : Byte → Byte → Byte} {b : Bool → Bool → Bool} {h : Bool}
    (hkernel : aluA op (o.value s) (o.readFrom s) =
      (o.readFrom s).setAF (f s.main.a (o.value s), logicFlags (f s.main.a (o.value s)) h))
    (hbit : ∀ (a x : Byte) (j : Nat), (f a x).getLsbD j = b (a.getLsbD j) (x.getLsbD j)) :
    Completes (aluInstr op o) s (.a :: .pc :: allFlags) (o.reads s) fun t =>
      (∀ j < 8, t.main.a.getLsbD j = b (s.main.a.getLsbD j) ((o.value s).getLsbD j)) ∧ LogicFlags t.main.a h t.flags ∧
        t.pc = s.pc + o.length := by
  refine (completes_aluInstr hkernel).imp ?_
  rintro t ⟨ha, hg, hpc⟩
  rw [ha, hg]
  exact ⟨fun j _ => hbit _ _ j, logicFlags_spec .., hpc⟩

/-- Settles O36: the three operations differ in the operation on bits and in `H`. -/
theorem logicOperations : Obligations.LogicOperations := by
  intro o s
  exact ⟨completes_logic (b := and) (by simp [aluA, and8]) fun _ _ _ => BitVec.getLsbD_and,
    completes_logic (b := bne) (by simp [aluA, xor8]) fun _ _ _ => BitVec.getLsbD_xor,
    completes_logic (b := or) (by simp [aluA, or8]) fun _ _ _ => BitVec.getLsbD_or⟩

/-! ### Increment and decrement -/

theorem exec_incInstr {p : Place} {i : Instr} (hi : incInstr p = some i) (s : State) :
    exec i s = retire p.incLength ((p.rewrite (inc8 (p.value s) s.flags).1 s).setFlags (inc8 (p.value s) s.flags).2) := by
  cases p with
  | reg | indHl => cases hi; rfl
  | half x h => cases x <;> cases h <;> cases hi <;> rfl
  | indexed x => cases x <;> cases hi <;> rfl
  | indexedCopy => cases hi

theorem exec_decInstr {p : Place} {i : Instr} (hi : decInstr p = some i) (s : State) :
    exec i s = retire p.incLength ((p.rewrite (dec8 (p.value s) s.flags).1 s).setFlags (dec8 (p.value s) s.flags).2) := by
  cases p with
  | reg | indHl => cases hi; rfl
  | half x h => cases x <;> cases h <;> cases hi <;> rfl
  | indexed x => cases x <;> cases hi <;> rfl
  | indexedCopy => cases hi

/-- Settles O37: each is a place rewritten with the kernel's result, and the kernel keeps `C`. -/
theorem incAndDec8 : Obligations.IncAndDec8 := by
  intro p i s hwf
  refine ⟨fun hi => ?inc, fun hi => ?dec⟩
  case inc =>
    refine (completes_rewrite hwf (exec_incInstr hi s) rfl).imp ?_
    rintro t ⟨hholds, hg, hpc⟩
    obtain ⟨hszyx, hh, hp, hn⟩ := inc8_flags (p.value s) s.flags
    rw [hg]
    exact ⟨hholds, hszyx, hh, hp, hn, hpc⟩
  case dec =>
    refine (completes_rewrite hwf (exec_decInstr hi s) rfl).imp ?_
    rintro t ⟨hholds, hg, hpc⟩
    obtain ⟨hszyx, hh, hp, hn⟩ := dec8_flags (p.value s) s.flags
    rw [hg]
    exact ⟨hholds, hszyx, hh, hp, hn, hpc⟩

/-! ### Decimal adjustment -/

theorem completes_daa (s : State) :
    Completes .daa s [.a, .pc, .fS, .fZ, .fY, .fH, .fX, .fP, .fC] [] fun t =>
      t.main.a = (daa8 s.main.a s.flags).1 ∧ t.flags = (daa8 s.main.a s.flags).2 ∧ t.pc = s.pc + 1 :=
  completes_setAF rfl (by simp [allFlags, State.slot, daa8, szyxFrom])

/-- Settles O38: the correction is `decimalFix`. -/
theorem decimalAdjust : Obligations.DecimalAdjust := by
  intro s
  refine (completes_daa s).imp ?_
  rintro t ⟨ha, hg, hpc⟩
  rw [ha, hg]
  exact ⟨daa8_result .., daa8_szyx .., by simp [daa8], parity_eq_true_iff _, daa8_c .., hpc⟩

/-- An operation with result `q`, then `DAA`. -/
theorem exec_alu_daa {op : AluOp} {o : Source} {s : State} {q : Byte × Flags} {n : Nat} {carry : Prop}
    (hkernel : aluA op (o.value s) (o.readFrom s) = (o.readFrom s).setAF q) (hresult : DecimalResult (daa8 q.1 q.2) n carry) :
    ∃ t u, exec (aluInstr op o) s = .next t ∧ exec .daa t = .next u ∧ DecimalResult (u.main.a, u.flags) n carry := by
  obtain ⟨t, hop, -, ha, hg, -⟩ := completes_aluInstr hkernel
  obtain ⟨u, hdaa, -, ha', hg', -⟩ := completes_daa t
  refine ⟨t, u, hop, hdaa, ?_⟩
  rwa [ha', hg', ha, hg]

/-- Settles O39: after each of the four operations the correction is that of its digits (`daa8_add8`, `daa8_sub8`); the differences there
are counted from 200. -/
theorem decimalArithmetic : Obligations.DecimalArithmetic := by
  intro o s ha hx m n c
  have hn : n ≤ 99 := by
    obtain ⟨hlow, hhigh⟩ := hx
    simp only [n, bcdValue]
    omega
  have hc : c ≤ 1 := Bool.toNat_le s.flags.c
  refine ⟨exec_alu_daa (by simp [aluA]) (daa8_add8 false ha hx), exec_alu_daa (by simp [aluA]) (daa8_add8 s.flags.c ha hx),
    ?sub, ?sbc⟩
  case sub =>
    have hmod : (m + 100 - n) % 100 = (m + 200 - n - 0) % 100 := by omega
    have hborrow : m < n ↔ m + 200 - n - 0 < 200 := by omega
    rw [hmod, hborrow]
    exact exec_alu_daa (by simp [aluA]) (daa8_sub8 false ha hx)
  case sbc =>
    have hborrow : m < n + c ↔ m + 200 - n - c < 200 := by omega
    rw [hborrow]
    exact exec_alu_daa (by simp [aluA]) (daa8_sub8 s.flags.c ha hx)

/-! ### `CPL`, `SCF`, `CCF` -/

/-- Settles O40: each writes five flags or fewer, and keeps the others as they stand. -/
theorem complementAndCarryOperations : Obligations.ComplementAndCarryOperations := by
  intro s
  refine ⟨?cpl, ?scf, ?ccf⟩
  case cpl =>
    refine (completes_setAF (q := cplA s.main.a s.flags) rfl (by simp [allFlags, State.slot, cplA])).imp ?_
    rintro t ⟨ha, hg, hpc⟩
    rw [ha, hg]
    refine ⟨fun j hj => ?_, rfl, rfl, rfl, rfl, hpc⟩
    have hones : (0xFF : Byte) = BitVec.allOnes 8 := rfl
    rw [cplA, hones, BitVec.xor_allOnes, BitVec.getLsbD_not, decide_eq_true hj, Bool.true_and]
  case scf =>
    refine (completes_setFlags (g := scfFlags s.main.a s.flags) rfl (by simp [allFlags, flagsYHXNC, State.slot, scfFlags])).imp ?_
    rintro t ⟨hg, hpc⟩
    rw [hg]
    exact ⟨rfl, rfl, rfl, rfl, rfl, hpc⟩
  case ccf =>
    refine (completes_setFlags (g := ccfFlags s.main.a s.flags) rfl (by simp [allFlags, flagsYHXNC, State.slot, ccfFlags])).imp ?_
    rintro t ⟨hg, hpc⟩
    rw [hg]
    exact ⟨rfl, rfl, rfl, rfl, rfl, hpc⟩

end Sys2Proof.Machine
end

section
/-! The 16-bit arithmetic (44_alu16.md; 49_index.md R471 to R473): the kernels as numbers, the frame of a 16-bit register write with flags, and
the statements. -/

namespace Sys2Proof.Machine

/-! ### Words as numbers -/

theorem getLsbD_fifteen (v : Word) : v.getLsbD 15 = decide (32768 ≤ v.toNat) := BitVec.msb_eq_decide v

theorem word_toInt (v : Word) : v.toInt = if v.toNat < 32768 then (v.toNat : Int) else v.toNat - 65536 := by
  rw [BitVec.toInt_eq_toNat_cond]
  split_ifs <;> omega

theorem word_add_one_toNat (v : Word) : (v + 1).toNat = (v.toNat + 1) % 65536 := BitVec.toNat_add v 1

theorem word_sub_one_toNat (v : Word) : (v - 1).toNat = (v.toNat + 65535) % 65536 :=
  (BitVec.toNat_sub v 1).trans (congrArg (· % 65536) (Nat.add_comm 65535 v.toNat))

/-! ### `ADD16` -/

/-- `r` is the sum of `a` and `x`, and `g` holds the five flags that tell of it (44_alu16.md R280). -/
def Sum16 (a x r : Word) (g : Flags) : Prop :=
  r.toNat = (a.toNat + x.toNat) % 65536 ∧ (g.h = true ↔ a.toNat % 0x1000 + x.toNat % 0x1000 > 0x0FFF) ∧ g.n = false ∧
    (g.c = true ↔ a.toNat + x.toNat > 0xFFFF) ∧ g.x = r.getLsbD 11 ∧ g.y = r.getLsbD 13

theorem add16_sum16 (a x : Word) (g : Flags) : Sum16 a x (add16 a x g).1 (add16 a x g).2 :=
  ⟨BitVec.toNat_ofNat .., decide_eq_true_iff, rfl, decide_eq_true_iff, rfl, rfl⟩

/-- `S`, `Z` and `P` are written as they were. -/
theorem changed_setFlags_add16 (a x : Word) (s : State) : Changed flagsYHXNC [] s (s.setFlags (add16 a x s.flags).2) :=
  changed_setFlags_of_kept (by simp [allFlags, flagsYHXNC, State.slot, add16])

/-! ### `ADC16` -/

theorem adc16_toNat (a x : Word) (c : Bool) : (adc16 a x c).1.toNat = (a.toNat + x.toNat + c.toNat) % 65536 :=
  BitVec.toNat_ofNat ..

theorem adc16_h (a x : Word) (c : Bool) :
    (adc16 a x c).2.h = true ↔ a.toNat % 0x1000 + x.toNat % 0x1000 + c.toNat > 0x0FFF := decide_eq_true_iff

theorem adc16_c (a x : Word) (c : Bool) : (adc16 a x c).2.c = true ↔ a.toNat + x.toNat + c.toNat > 0xFFFF := decide_eq_true_iff

theorem adc16_p (a x : Word) (c : Bool) :
    (adc16 a x c).2.p = true ↔ a.getLsbD 15 = x.getLsbD 15 ∧ a.getLsbD 15 ≠ (adc16 a x c).1.getLsbD 15 := by
  simp [adc16]

/-- Operands of one sign whose sum has the other: just then the signed sum does not fit (44_alu16.md R281; D15). -/
theorem adc16_p_iff_signedOverflow (a x : Word) (c : Bool) :
    (adc16 a x c).2.p = true ↔ SignedOverflow 16 (a.toInt + x.toInt + c.toNat) := by
  have hr := adc16_toNat a x c
  have hc := Bool.toNat_le c
  have hp : (adc16 a x c).2.p = true ↔
      (32768 ≤ a.toNat ↔ 32768 ≤ x.toNat) ∧ ¬(32768 ≤ a.toNat ↔ 32768 ≤ (adc16 a x c).1.toNat) := by
    rw [adc16_p, ne_eq, getLsbD_fifteen, getLsbD_fifteen, getLsbD_fifteen, decide_eq_decide, decide_eq_decide]
  rw [hp, hr, SignedOverflow, word_toInt, word_toInt]
  split_ifs <;> omega

/-! ### `SBC16` -/

theorem sbc16_toNat (a x : Word) (c : Bool) :
    ((sbc16 a x c).1.toNat : Int) = ((a.toNat : Int) - x.toNat - c.toNat) % 65536 := by
  simp only [sbc16, BitVec.toNat_ofInt]
  omega

theorem sbc16_h (a x : Word) (c : Bool) : (sbc16 a x c).2.h = true ↔ a.toNat % 0x1000 < x.toNat % 0x1000 + c.toNat := by
  simp only [sbc16, decide_eq_true_eq]
  omega

theorem sbc16_c (a x : Word) (c : Bool) : (sbc16 a x c).2.c = true ↔ a.toNat < x.toNat + c.toNat := by
  simp only [sbc16, decide_eq_true_eq]
  omega

theorem sbc16_p (a x : Word) (c : Bool) :
    (sbc16 a x c).2.p = true ↔ a.getLsbD 15 ≠ x.getLsbD 15 ∧ a.getLsbD 15 ≠ (sbc16 a x c).1.getLsbD 15 := by
  simp [sbc16]

/-- Operands of unlike signs whose difference has not the sign of `HL` (44_alu16.md R282; D15). -/
theorem sbc16_p_iff_signedOverflow (a x : Word) (c : Bool) :
    (sbc16 a x c).2.p = true ↔ SignedOverflow 16 (a.toInt - x.toInt - c.toNat) := by
  have hr := sbc16_toNat a x c
  have hc := Bool.toNat_le c
  have hp : (sbc16 a x c).2.p = true ↔
      ¬(32768 ≤ a.toNat ↔ 32768 ≤ x.toNat) ∧ ¬(32768 ≤ a.toNat ↔ 32768 ≤ (sbc16 a x c).1.toNat) := by
    rw [sbc16_p, ne_eq, ne_eq, getLsbD_fifteen, getLsbD_fifteen, getLsbD_fifteen, decide_eq_decide, decide_eq_decide]
  rw [hp, SignedOverflow, word_toInt, word_toInt]
  split_ifs <;> omega

/-! ### Completion -/

@[simp] theorem flags_setPair (s : State) (p : Pair) (v : Word) : (s.setPair p v).flags = s.flags := by cases p <;> rfl

@[simp] theorem flags_setIdx (s : State) (x : Index) (v : Word) : (s.setIdx x v).flags = s.flags := by cases x <;> rfl

@[simp] theorem idx_setFlags (s : State) (g : Flags) (x : Index) : (s.setFlags g).idx x = s.idx x := by cases x <;> rfl

theorem completes_setIdx {i : Instr} {x : Index} {v len : Word} {s : State} (hexec : exec i s = retire len (s.setIdx x v)) :
    Completes i s (indexSlots x ++ [.pc]) [] fun t => t.idx x = v ∧ t.pc = s.pc + len :=
  (changed_setIdx s x v).completes hexec (setIdx_pc s x v) (by simp)

/-- The register `register` then holds the number `n`. -/
theorem Completes.toNat_eq {i : Instr} {s : State} {ws : List Slot} {ops : List BusOp} {register : State → Word} {v pc : Word}
    {n : Nat} (h : Completes i s ws ops fun t => register t = v ∧ t.pc = pc) (hv : v.toNat = n) :
    Completes i s ws ops fun t => (register t).toNat = n ∧ t.pc = pc :=
  h.imp fun _ ⟨hregister, hpc⟩ => ⟨(congrArg BitVec.toNat hregister).trans hv, hpc⟩

/-- A register write that leaves `PC`, then a write of `F` that changes the flags `fs` alone. -/
theorem Changed.completes_setFlags {i : Instr} {ws fs : List Slot} {g : Flags} {len : Word} {s t : State} {post : State → Prop}
    (hset : Changed ws [] s t) (hflags : Changed fs [] t (t.setFlags g)) (hexec : exec i s = retire len (t.setFlags g))
    (hpc : t.pc = s.pc) (hpost : post ((t.setFlags g).setPc (s.pc + len))) : Completes i s (ws ++ .pc :: fs) [] post := by
  refine ((hset.trans hflags).completes hexec hpc hpost).mono fun x hx => ?_
  simp only [List.mem_append, List.mem_cons] at hx ⊢
  tauto

theorem completes_setHl_setFlags {i : Instr} {fs : List Slot} {q : Word × Flags} {len : Word} {s : State}
    (hexec : exec i s = retire len ((s.setPair .hl q.1).setFlags q.2))
    (hflags : Changed fs [] (s.setPair .hl q.1) ((s.setPair .hl q.1).setFlags q.2)) :
    Completes i s (.h :: .l :: .pc :: fs) [] fun t => t.main.hl = q.1 ∧ t.flags = q.2 ∧ t.pc = s.pc + len :=
  (changed_setPair s .hl q.1).completes_setFlags hflags hexec rfl ⟨pair_setPair s .hl q.1, by simp, rfl⟩

theorem completes_setIdx_setFlags {i : Instr} {x : Index} {fs : List Slot} {q : Word × Flags} {len : Word} {s : State}
    (hexec : exec i s = retire len ((s.setIdx x q.1).setFlags q.2))
    (hflags : Changed fs [] (s.setIdx x q.1) ((s.setIdx x q.1).setFlags q.2)) :
    Completes i s (indexSlots x ++ .pc :: fs) [] fun t => t.idx x = q.1 ∧ t.flags = q.2 ∧ t.pc = s.pc + len :=
  (changed_setIdx s x q.1).completes_setFlags hflags hexec (setIdx_pc s x q.1) ⟨by simp, by simp, rfl⟩

theorem completes_addIndex {i : Instr} {x : Index} {operand len : Word} {s : State}
    (hexec : exec i s =
      retire len ((s.setIdx x (add16 (s.idx x) operand s.flags).1).setFlags (add16 (s.idx x) operand s.flags).2)) :
    Completes i s (indexSlots x ++ .pc :: flagsYHXNC) [] fun t =>
      Sum16 (s.idx x) operand (t.idx x) t.flags ∧ t.pc = s.pc + len := by
  have hflags := changed_setFlags_add16 (s.idx x) operand (s.setIdx x (add16 (s.idx x) operand s.flags).1)
  rw [flags_setIdx] at hflags
  refine (completes_setIdx_setFlags hexec hflags).imp ?_
  rintro t ⟨hsum, hg, hpc⟩
  rw [hsum, hg]
  exact ⟨add16_sum16 .., hpc⟩

/-! ### The statements -/

/-- Settles O41: one kernel, whose sum goes to `HL` or to an index register. (The kernel has the name `add16`.) -/
theorem add16Instructions : Obligations.Add16 := by
  intro s ss pp sum other
  refine ⟨?hl, ?ix, ?iy⟩
  case hl =>
    have hflags := changed_setFlags_add16 s.main.hl (s.pair ss) (s.setPair .hl (add16 s.main.hl (s.pair ss) s.flags).1)
    rw [flags_setPair] at hflags
    refine (completes_setHl_setFlags rfl hflags).imp ?_
    rintro t ⟨hsum, hg, hpc⟩
    rw [hsum, hg]
    exact ⟨add16_sum16 .., hpc⟩
  case ix => exact completes_addIndex (x := .ix) (by cases pp <;> rfl)
  case iy => exact completes_addIndex (x := .iy) (by cases pp <;> rfl)

/-- Settles O42: each writes its kernel's result to `HL` and `F`. -/
theorem adcAndSbc16 : Obligations.AdcAndSbc16 := by
  intro s ss a x c
  refine ⟨?adc, ?sbc⟩
  case adc =>
    refine (completes_setHl_setFlags (q := adc16 a x s.flags.c) rfl (changed_setFlags _ _)).imp ?_
    rintro t ⟨hsum, hg, hpc⟩
    rw [hsum, hg]
    exact ⟨adc16_toNat .., rfl, beq_iff_eq, adc16_h .., adc16_p_iff_signedOverflow .., rfl, adc16_c .., rfl, rfl, hpc⟩
  case sbc =>
    refine (completes_setHl_setFlags (q := sbc16 a x s.flags.c) rfl (changed_setFlags _ _)).imp ?_
    rintro t ⟨hdiff, hg, hpc⟩
    rw [hdiff, hg]
    exact ⟨rfl, rfl, beq_iff_eq, sbc16_h .., sbc16_p_iff_signedOverflow .., rfl, sbc16_c .., rfl, rfl, hpc⟩

/-- Settles O43: each writes a pair or an index register and nothing else, with the word above or below the old one. -/
theorem incAndDec16 : Obligations.IncAndDec16 := by
  intro s ss
  refine ⟨?incSs, ?decSs, ?incIx, ?decIx, ?incIy, ?decIy⟩
  case incSs => exact (completes_setPair rfl).toNat_eq (word_add_one_toNat _)
  case decSs => exact (completes_setPair rfl).toNat_eq (word_sub_one_toNat _)
  case incIx => exact (completes_setIdx (x := .ix) rfl).toNat_eq (word_add_one_toNat _)
  case decIx => exact (completes_setIdx (x := .ix) rfl).toNat_eq (word_sub_one_toNat _)
  case incIy => exact (completes_setIdx (x := .iy) rfl).toNat_eq (word_add_one_toNat _)
  case decIy => exact (completes_setIdx (x := .iy) rfl).toNat_eq (word_sub_one_toNat _)

end Sys2Proof.Machine
end

section
/-! The kernels of 45_rotate_shift_bit.md bit by bit (R300 to R302) and nibble by nibble (R330, R331). -/

namespace Sys2Proof.Machine

/-! ### Shifts and rotates -/

theorem getLsbD_bitByte (b : Bool) (j : Nat) : (bitByte b).getLsbD j = (b && decide (j = 0)) := by
  cases b <;> simp [bitByte]

theorem bitByte_msb_shiftLeft (x : Byte) : bitByte (x.getLsbD 7) <<< 7 = x &&& 0x80 := by
  revert x; decide

/-- Two shapes for the eight kinds: shift by one place and put the bit moved in where a place falls free. -/
theorem shift_eq (k : ShiftKind) (x : Byte) (c : Bool) :
    shift k x c =
      if shiftsLeft k then (x <<< 1 ||| bitByte (shiftIn k x c), x.getLsbD 7)
      else (x >>> 1 ||| bitByte (shiftIn k x c) <<< 7, x.getLsbD 0) := by
  cases k with
  | rlc | rrc | rl | rr | sll => rfl
  | sla | srl => simp [shift, shiftsLeft, shiftIn, bitByte]
  | sra => rw [shift, shiftIn, bitByte_msb_shiftLeft]; rfl

theorem shift_shiftResult (k : ShiftKind) (x : Byte) (c : Bool) : ShiftResult k x c (shift k x c).1 (shift k x c).2 := by
  rw [shift_eq, ShiftResult]
  split
  case isTrue =>
    refine ⟨rfl, ?_, fun j hj => ?_⟩ <;> rw [BitVec.getLsbD_or, BitVec.getLsbD_shiftLeft, getLsbD_bitByte]
    · simp
    · have hlt : j + 1 < 8 := by omega
      simp [hlt]
  case isFalse =>
    refine ⟨rfl, ?_, fun j hj => ?_⟩ <;>
      rw [BitVec.getLsbD_or, BitVec.getLsbD_ushiftRight, BitVec.getLsbD_shiftLeft, getLsbD_bitByte]
    · simp
    · simp [hj, Nat.add_comm 1 j]

theorem shiftFlags_spec (r : Byte) (co : Bool) : let q := shiftFlags r co
    SzyxFrom r q ∧ q.h = false ∧ (q.p = true ↔ EvenOnes r) ∧ q.n = false ∧ q.c = co :=
  ⟨⟨rfl, beq_iff_eq, rfl, rfl⟩, rfl, parity_eq_true_iff r, rfl, rfl⟩

/-! ### Single bits -/

theorem getLsbD_oneShiftLeft (b : Field3) (j : Nat) : ((1 : Byte) <<< b.toNat).getLsbD j = decide (j = b.toNat) := by
  have hb : b.toNat < 8 := b.isLt
  have hpow : (1 : Byte) <<< b.toNat = BitVec.twoPow 8 b.toNat := rfl
  rw [hpow, BitVec.getLsbD_twoPow]
  simp [hb, eq_comm]

theorem resBit_bitSetTo (b : Field3) (x : Byte) : BitSetTo b false x (resBit b x) := by
  intro j hj
  rw [resBit, BitVec.getLsbD_and, BitVec.getLsbD_not, getLsbD_oneShiftLeft]
  by_cases hjb : j = b.toNat <;> simp [hjb, hj]

theorem setBit_bitSetTo (b : Field3) (x : Byte) : BitSetTo b true x (setBit b x) := by
  intro j _
  rw [setBit, BitVec.getLsbD_or, getLsbD_oneShiftLeft]
  by_cases hjb : j = b.toNat <;> simp [hjb]

/-! ### Nibbles -/

theorem toNat_and_lowNibble (v : Byte) : (v &&& 0x0F).toNat = v.toNat % 16 := Nat.and_two_pow_sub_one_eq_mod v.toNat 4

theorem toNat_and_highNibble (v : Byte) : (v &&& 0xF0).toNat = 16 * (v.toNat / 16) := by
  revert v; decide

theorem toNat_shiftRight_four (v : Byte) : (v >>> 4).toNat = v.toNat / 16 := Nat.shiftRight_eq_div_pow v.toNat 4

theorem toNat_lowNibble_shiftLeft (v : Byte) : ((v &&& 0x0F) <<< 4).toNat = 16 * (v.toNat % 16) := by
  revert v; decide

theorem shiftLeft_and_highNibble (v : Byte) : v <<< 4 &&& (0xF0 : Byte) = (v &&& 0x0F) <<< 4 := by
  revert v; decide

/-- A high and a low nibble do not overlap, so `|` adds them. -/
theorem toNat_or_nibbles {hi lo : Byte} {m n : Nat} (hhi : hi.toNat = 16 * m) (hlo : lo.toNat = n) (hn : n < 16) :
    (hi ||| lo).toNat = 16 * m + n := by
  rw [BitVec.toNat_or, hhi, hlo]
  exact (Nat.two_pow_add_eq_or_of_lt (i := 4) hn m).symm

/-- 45_rotate_shift_bit.md R330, D31: the memory byte, then `A`. -/
theorem rldNibbles_toNat (a m : Byte) :
    (rldNibbles a m).1.toNat = 16 * (m.toNat % 16) + a.toNat % 16 ∧
      (rldNibbles a m).2.toNat = 16 * (a.toNat / 16) + m.toNat / 16 := by
  rw [rldNibbles, shiftLeft_and_highNibble]
  exact ⟨toNat_or_nibbles (toNat_lowNibble_shiftLeft m) (toNat_and_lowNibble a) (by omega),
    toNat_or_nibbles (toNat_and_highNibble a) (toNat_shiftRight_four m) (by omega)⟩

/-- 45_rotate_shift_bit.md R331, D31: the memory byte, then `A`. -/
theorem rrdNibbles_toNat (a m : Byte) :
    (rrdNibbles a m).1.toNat = 16 * (a.toNat % 16) + m.toNat / 16 ∧
      (rrdNibbles a m).2.toNat = 16 * (a.toNat / 16) + m.toNat % 16 :=
  ⟨toNat_or_nibbles (toNat_lowNibble_shiftLeft a) (toNat_shiftRight_four m) (by omega),
    toNat_or_nibbles (toNat_and_highNibble a) (toNat_and_lowNibble m) (by omega)⟩

theorem inFlags_spec (v : Byte) (g : Flags) : let q := inFlags v g
    SzyxFrom v q ∧ q.h = false ∧ (q.p = true ↔ EvenOnes v) ∧ q.n = false :=
  ⟨szyxFrom_spec v g, rfl, parity_eq_true_iff v, rfl⟩

end Sys2Proof.Machine
end

section
/-! The statements about rotates, shifts and bits (45_rotate_shift_bit.md; 49_index.md section 4): each operation on a place is the place
read, rewritten with the kernel's result where it is written, and the flags. -/

namespace Sys2Proof.Machine

/-! ### The accumulator rotates -/

theorem rotateA_eq (k : ShiftKind) (s : State) :
    rotateA k s = s.setAF ((shift k s.main.a s.flags.c).1,
      rotateAFlags (shift k s.main.a s.flags.c).1 (shift k s.main.a s.flags.c).2 s.flags) := rfl

/-- Settles O44: each is `SHIFT` on `A`, with `S`, `Z` and `P` written as they were. -/
theorem accumulatorRotates : Obligations.AccumulatorRotates := by
  intro s k i hi
  have hexec : exec i s = retire 1 (rotateA k s) := by
    simp only [List.mem_cons, List.not_mem_nil, Prod.mk.injEq, or_false] at hi
    obtain ⟨rfl, rfl⟩ | ⟨rfl, rfl⟩ | ⟨rfl, rfl⟩ | ⟨rfl, rfl⟩ := hi <;> rfl
  rw [rotateA_eq] at hexec
  refine (completes_setAF hexec (by simp [allFlags, flagsYHXNC, State.slot, rotateAFlags])).imp ?_
  rintro t ⟨ha, hg, hpc⟩
  rw [ha, hg]
  exact ⟨shift_shiftResult .., rfl, rfl, rfl, rfl, hpc⟩

/-! ### Shifts and rotates of a place -/

theorem setReg_setFlags (s : State) (r : Reg8) (v : Byte) (g : Flags) :
    (s.setFlags g).setReg r v = (s.setReg r v).setFlags g := by
  cases r <;> rfl

/-- All forty-eight (45_rotate_shift_bit.md R303 to R318; 49_index.md R521, R522). -/
theorem exec_shiftInstr {k : ShiftKind} {p : Place} {i : Instr} (hi : shiftInstr k p = some i) (s : State) :
    let q := shift k (p.value s) s.flags.c
    exec i s = retire p.cbLength ((p.rewrite q.1 s).setFlags (shiftFlags q.1 q.2)) := by
  cases p with
  | reg | indHl => cases k <;> cases hi <;> rfl
  | half => cases hi
  | indexed x => cases x <;> cases k <;> cases hi <;> rfl
  | indexedCopy x => cases x <;> cases k <;> cases hi <;> exact congrArg (retire 4) (setReg_setFlags ..)

theorem completes_rewrite_allFlags {i : Instr} {p : Place} {v : Byte} {g : Flags} {len : Word} {s : State}
    (hwf : s.mem.wf = true) (hexec : exec i s = retire len ((p.rewrite v s).setFlags g)) :
    Completes i s (p.slots ++ .pc :: allFlags) (p.reads s ++ p.writes s v) fun t =>
      p.Holds s t v ∧ t.flags = g ∧ t.pc = s.pc + len := by
  have h := (p.changed_rewrite v s hwf).trans (changed_setFlags (p.rewrite v s) g)
  rw [List.append_nil] at h
  have hholds := Place.holds_setPc (Place.holds_setFlags (p.holds_rewrite v s hwf) g) (s.pc + len)
  exact (h.completes hexec (by simp) ⟨hholds, by simp, rfl⟩).mono (by simp [List.subset_def]; tauto)

/-- Settles O45: the place is rewritten with the result of `SHIFT`. -/
theorem shiftsAndRotates : Obligations.ShiftsAndRotates := by
  intro k p i s hwf hi
  refine ⟨_, _, shift_shiftResult k (p.value s) s.flags.c, (completes_rewrite_allFlags hwf (exec_shiftInstr hi s)).imp ?_⟩
  rintro t ⟨hholds, hg, hpc⟩
  obtain ⟨hszyx, hh, hp, hn, hc⟩ := shiftFlags_spec (shift k (p.value s) s.flags.c).1 (shift k (p.value s) s.flags.c).2
  rw [hg]
  exact ⟨hholds, hszyx, hh, hp, hn, hc, hpc⟩

/-! ### `BIT` -/

/-- The place as an operand that is only read. -/
def Place.source : Place → Source
  | .reg r => .reg r
  | .indHl => .indHl
  | .half x h => .half x h
  | .indexed x d => .indexed x d
  | .indexedCopy x d _ => .indexed x d

theorem Place.source_reads (p : Place) (s : State) : p.source.reads s = p.reads s := by cases p <;> rfl

theorem exec_bitInstr {b z : Field3} {p : Place} {i : Instr} (hi : bitInstr b z p = some i) (s : State) :
    exec i s = retire p.cbLength ((p.source.readFrom s).setFlags (bitTest b (p.value s) s.flags)) := by
  cases p with
  | reg | indHl => cases hi; rfl
  | indexed x => cases x <;> cases hi <;> rfl
  | half | indexedCopy => cases hi

theorem bitTest_spec (b : Field3) (x : Byte) (g : Flags) : let v := x.getLsbD b.toNat; let q := bitTest b x g
    q.z = !v ∧ q.p = !v ∧ (q.s = true ↔ b = 7 ∧ v = true) ∧ q.h = true ∧ q.n = false ∧
      (q.x = true ↔ b = 3 ∧ v = true) ∧ (q.y = true ↔ b = 5 ∧ v = true) := by
  simp [bitTest]

theorem changed_setFlags_bitTest (b : Field3) (x : Byte) (s : State) :
    Changed flagsButC [] s (s.setFlags (bitTest b x s.flags)) :=
  changed_setFlagsButC rfl

/-- Settles O46: the place is read, and `F` written but for `C`. (The kernel has the name `bitTest`.) -/
theorem bitTestInstructions : Obligations.BitTest := by
  intro b z p i s hi v
  have hflags := changed_setFlags_bitTest b (p.value s) (p.source.readFrom s)
  rw [Source.readFrom_flags] at hflags
  have h := (p.source.changed_readFrom s).trans hflags
  rw [List.append_nil, p.source_reads] at h
  refine (h.completes (exec_bitInstr hi s) (by simp) ?_).mono (by simp)
  rw [flags_setPc, flags_setFlags]
  obtain ⟨hz, hp, hs, hh, hn, hx, hy⟩ := bitTest_spec b (p.value s) s.flags
  exact ⟨hz, hp, hs, hh, hn, hx, hy, rfl⟩

/-! ### `RES` and `SET` -/

theorem exec_resInstr {b : Field3} {p : Place} {i : Instr} (hi : resInstr b p = some i) (s : State) :
    exec i s = retire p.cbLength (p.rewrite (resBit b (p.value s)) s) := by
  cases p with
  | reg | indHl => cases hi; rfl
  | indexed x | indexedCopy x => cases x <;> cases hi <;> rfl
  | half => cases hi

theorem exec_setInstr {b : Field3} {p : Place} {i : Instr} (hi : setInstr b p = some i) (s : State) :
    exec i s = retire p.cbLength (p.rewrite (setBit b (p.value s)) s) := by
  cases p with
  | reg | indHl => cases hi; rfl
  | indexed x | indexedCopy x => cases x <;> cases hi <;> rfl
  | half => cases hi

theorem completes_rewrite_noFlags {i : Instr} {p : Place} {v : Byte} {len : Word} {s : State} (hwf : s.mem.wf = true)
    (hexec : exec i s = retire len (p.rewrite v s)) :
    Completes i s (.pc :: p.slots) (p.reads s ++ p.writes s v) fun t => p.Holds s t v ∧ t.pc = s.pc + len :=
  ((p.changed_rewrite v s hwf).completes hexec (by simp) ⟨Place.holds_setPc (p.holds_rewrite v s hwf) _, rfl⟩).mono (by simp)

/-- Settles O47: the place is rewritten with the bit cleared or set. -/
theorem resetAndSetBit : Obligations.ResetAndSetBit := by
  intro b p i s hwf v hi
  cases v with
  | false => exact ⟨_, resBit_bitSetTo b (p.value s), completes_rewrite_noFlags hwf (exec_resInstr hi s)⟩
  | true => exact ⟨_, setBit_bitSetTo b (p.value s), completes_rewrite_noFlags hwf (exec_setInstr hi s)⟩

/-! ### `RLD` and `RRD` -/

/-- `C` is written as it was. -/
theorem changed_setAF_inFlags (s : State) (v : Byte) : Changed (.a :: flagsButC) [] s (s.setAF (v, inFlags v s.flags)) :=
  changed_setAF_of_kept (by simp [allFlags, flagsButC, State.slot, inFlags, szyxFrom])

/-- `m` and `n` are the two bytes that `f` makes, as numbers: the one stored at `HL`, the one in `A`. -/
theorem completes_nibbleRotate {i : Instr} {f : Byte → Byte → Byte × Byte} {m n : Nat} {s : State} (hwf : s.mem.wf = true)
    (hexec : exec i s = retire 2 (nibbleRotate f s))
    (hf : (f s.main.a (s.peek s.main.hl)).1.toNat = m ∧ (f s.main.a (s.peek s.main.hl)).2.toNat = n) :
    Completes i s (.a :: .pc :: flagsButC)
      [.memRead s.main.hl (s.peek s.main.hl), .memWrite s.main.hl (BitVec.ofNat 8 m)] fun t =>
        t.main.a.toNat = n ∧ SzyxFrom t.main.a t.flags ∧ t.flags.h = false ∧ (t.flags.p = true ↔ EvenOnes t.main.a) ∧
          t.flags.n = false ∧ t.pc = s.pc + 2 := by
  obtain ⟨rfl, rfl⟩ := hf
  rw [BitVec.ofNat_toNat, BitVec.setWidth_eq]
  have h := (changed_readWrite s s.main.hl (f s.main.a (s.peek s.main.hl)).1 hwf).trans
    (changed_setAF_inFlags _ (f s.main.a (s.peek s.main.hl)).2)
  refine (h.completes hexec rfl ?_).mono (by simp)
  rw [flags_setPc, flags_setAF]
  obtain ⟨hszyx, hh, hp, hn⟩ := inFlags_spec (f s.main.a (s.peek s.main.hl)).2 s.flags
  exact ⟨rfl, hszyx, hh, hp, hn, rfl⟩

/-- Settles O48: one read and one write at `HL`, of which the bytes are those of `rldNibbles` and `rrdNibbles`. -/
theorem nibbleRotates : Obligations.NibbleRotates := by
  intro s hwf a m flags
  exact ⟨completes_nibbleRotate hwf rfl (rldNibbles_toNat ..), completes_nibbleRotate hwf rfl (rrdNibbles_toNat ..)⟩

end Sys2Proof.Machine
end

section
/-! Jumps, calls, restarts and returns (46_control.md; 47_io_system.md R407, R408; 49_index.md R470): the frame of what stands before the
end (T-states of a branch taken, `DJNZ`'s count, a pop, a push), then one rule for the end, which writes `PC`. -/

namespace Sys2Proof.Machine

/-! ### What is done before `PC` is written -/

/-- An update of slots alone, after a part that may use the bus. -/
theorem Changed.trans_slots {ws ws' : List Slot} {ops : List BusOp} {s t u : State} (h : Changed ws ops s t)
    (h' : Changed ws' [] t u) : Changed (ws ++ ws') ops s u := by
  have hboth := h.trans h'
  rwa [List.append_nil] at hboth

theorem changed_addCyc (s : State) (n : Nat) : Changed [.cyc] [] s (s.addCyc n) := by
  refine changed_of_sameSlots ?_ ⟨rfl, rfl, rfl, rfl⟩ rfl rfl rfl
  intro x hx
  cases x with
  | cyc => exact absurd (List.mem_singleton.mpr rfl) hx
  | _ => rfl

/-- `IFF1 <- IFF2` (47_io_system.md R408). -/
theorem changed_restoreIff1 (s : State) : Changed [.iff1] [] s { s with iff1 := s.iff2 } := by
  refine changed_of_sameSlots ?_ ⟨rfl, rfl, rfl, rfl⟩ rfl rfl rfl
  intro x hx
  cases x with
  | iff1 => exact absurd (List.mem_singleton.mpr rfl) hx
  | _ => rfl

theorem stored16_push16 (s : State) (v : Word) (hwf : s.mem.wf = true) : Stored16 (s.push16 v) (s.push16 v).sp v := by
  rw [push16_sp]
  exact (changed_push16 s v hwf).stored16 (wrote16_pushOps s v)

theorem stored16_addCyc {t : State} {a v : Word} {n : Nat} (h : Stored16 t a v) : Stored16 (t.addCyc n) a v := h

/-! ### What an instruction that ends by writing `PC` completes with -/

/-- What was done before the end is the frame; the end writes `PC`. -/
theorem Changed.completes_jump {i : Instr} {ws : List Slot} {ops : List BusOp} {s t : State} {target : Word} {post : State → Prop}
    (h : Changed ws ops s t) (hexec : exec i s = jump target t) (hpost : post (t.setPc target)) :
    Completes i s (ws ++ [.pc]) ops post :=
  ⟨t.setPc target, hexec, h.trans_slots (changed_setPc t target), hpost⟩

theorem completes_jump {i : Instr} {target : Word} {s : State} (hexec : exec i s = jump target s) :
    Completes i s [.pc] [] fun t => t.pc = target :=
  ⟨s.setPc target, hexec, changed_setPc s target, rfl⟩

/-- A branch that is not taken only goes on. -/
theorem completes_retire {i : Instr} {len : Word} {s : State} (hexec : exec i s = retire len s) :
    Completes i s [.pc] [] fun t => t.pc = s.pc + len :=
  completes_jump hexec

theorem completes_jump_addCyc {i : Instr} {target : Word} {n : Nat} {s : State} (hexec : exec i s = jump target (s.addCyc n)) :
    Completes i s [.pc, .cyc] [] fun t => t.pc = target ∧ t.cyc = s.cyc + n :=
  ((changed_addCyc s n).completes_jump hexec ⟨rfl, rfl⟩).mono (by simp)

theorem completes_call {i : Instr} {len target : Word} {s : State} (hwf : s.mem.wf = true) (hexec : exec i s = call len target s) :
    Completes i s [.sp, .pc] (pushOps s (s.pc + len)) fun t =>
      t.pc = target ∧ t.sp = s.sp - 2 ∧ Stored16 t t.sp (s.pc + len) :=
  (changed_push16 s _ hwf).completes_jump hexec ⟨rfl, push16_sp s _, stored16_setPc (stored16_push16 s _ hwf)⟩

/-! ### Conditions and targets -/

/-- A conditional absolute jump is a jump either way (46_control.md R353). -/
theorem exec_jpCcNn (cc : Cond) (nn : Word) (s : State) :
    exec (.jpCcNn cc nn) s = jump (if s.cond cc then nn else s.pc + 3) s :=
  (apply_ite (jump · s) _ nn (s.pc + 3)).symm

/-- `DJNZ` goes on where `B` becomes 0, and jumps where it does not (46_control.md R357). -/
theorem exec_djnz (e : Byte) (s : State) :
    exec (.djnz e) s =
      if s.main.b = 1 then retire 2 (s.setReg .b (s.main.b - 1))
      else jump (relTarget s.pc e) ((s.setReg .b (s.main.b - 1)).addCyc 5) := by
  have hjumps : (s.main.b - 1 != 0) = true ↔ s.main.b ≠ 1 := by rw [bne_iff_ne, ne_eq, sub_eq_zero]
  exact (if_congr hjumps rfl rfl).trans (ite_not ..)

theorem rstTarget_toNat (p : Field3) : (rstTarget p).toNat = 8 * p.toNat := by
  have := p.isLt
  rw [rstTarget, BitVec.toNat_ofNat, Nat.mod_eq_of_lt (by omega)]

/-! ### The statements -/

/-- Settles O49: each jump writes `PC`, a relative one taken also counts T-states, `DJNZ` also writes `B`. -/
theorem jumps : Obligations.Jumps := by
  intro s cc nn e rel
  have hrel : relTarget s.pc e = rel := relTarget_eq s.pc e
  refine ⟨completes_jump rfl, completes_jump (exec_jpCcNn cc nn s), completes_jump rfl, completes_jump rfl, completes_jump rfl,
    ?jr, fun htaken => ?jrTaken, fun hnot => ?jrNot, fun hb => ?djnzTaken, fun hb => ?djnzNot⟩
  case jr => exact hrel ▸ completes_jump rfl
  case jrTaken => exact hrel ▸ completes_jump_addCyc (if_pos htaken)
  case jrNot => exact completes_retire (if_neg (ne_true_of_eq_false hnot))
  case djnzTaken =>
    have h := (changed_setReg s .b (s.main.b - 1)).trans_slots (changed_addCyc _ 5)
    exact (h.completes_jump ((exec_djnz e s).trans (if_neg hb)) ⟨rfl, hrel, rfl⟩).mono (by simp [regSlot])
  case djnzNot =>
    have hzero : s.main.b - 1 = 0 := sub_eq_zero.mpr hb
    exact (changed_setReg s .b (s.main.b - 1)).completes ((exec_djnz e s).trans (if_pos hb)) rfl ⟨hzero, rfl⟩

/-- Settles O50: a condition reads a flag, and a flag is its bit of `F`. -/
theorem conditionCodes : Obligations.ConditionCodes :=
  fun _ => ⟨rfl, rfl, rfl, rfl, rfl, rfl, rfl, rfl, by decide⟩

/-- Settles O51: a return is the frame of `changed_pop16` and a jump to the word read, a call the frame of `changed_push16`, a word that
reads back, and a jump to its target. Where a condition is met, the T-states
that the model adds first are counted last here. -/
theorem callsAndReturns : Obligations.CallsAndReturns := by
  intro s cc nn p y
  refine ⟨?ret, ?reti, ?retn, fun htaken => ?retTaken, fun hnot => ?retNot, fun hnot => ?callNot,
    fun hwf => ⟨completes_call hwf rfl, fun htaken => ?callTaken, ?rst⟩⟩
  case ret | reti => exact (changed_pop16 s).completes_jump rfl ⟨pop16_value s, pop16_sp s⟩
  case retn =>
    have h := (changed_pop16 s).trans_slots (changed_restoreIff1 _)
    exact (h.completes_jump rfl ⟨pop16_value s, pop16_sp s, rfl⟩).mono (by simp)
  case retTaken =>
    have hexec : exec (.retCc cc) s = jump s.pop16.1 (s.pop16.2.addCyc 6) := if_pos htaken
    have h := (changed_pop16 s).trans_slots (changed_addCyc _ 6)
    exact (h.completes_jump hexec ⟨pop16_value s, pop16_sp s, rfl⟩).mono (by simp)
  case retNot | callNot => exact completes_retire (if_neg (ne_true_of_eq_false hnot))
  case callTaken =>
    have hexec : exec (.callCcNn cc nn) s = jump nn ((s.push16 (s.pc + 3)).addCyc 7) := if_pos htaken
    have h := (changed_push16 s (s.pc + 3) hwf).trans_slots (changed_addCyc _ 7)
    have hstored := stored16_push16 s (s.pc + 3) hwf
    exact (h.completes_jump hexec ⟨rfl, push16_sp s _, stored16_setPc (stored16_addCyc hstored), rfl⟩).mono (by simp)
  case rst =>
    refine (completes_call hwf rfl).imp ?_
    rintro t ⟨hpc, hsp, hstored⟩
    exact ⟨(congrArg BitVec.toNat hpc).trans (rstTarget_toNat p), hsp, hstored⟩

end Sys2Proof.Machine
end

section
/-! `FD` is `DD` with `IX` and `IY` exchanged around it (49_index.md R460). The rows of the decoder's tables name an instruction
on `IX` and its mirror image on `IY`; row by row, the two have one meaning, at the one register and at the other. -/

namespace Sys2Proof.Machine

/-- `j` does to `IY` what `i` does to `IX`. -/
def Mirrors (i j : Instr) : Prop := ∀ s : State, exec j s = onNext State.swapIndex (exec i s.swapIndex)

/-- Rows with a register field `r`, of which the plane has none for the value 6. -/
theorem mirrors_map {f g : Reg8 → Instr} (h : ∀ r, Mirrors (f r) (g r)) :
    ∀ o : Option Reg8, Option.Rel Mirrors (o.map f) (o.map g)
  | none => .none
  | some r => .some (h r)

theorem decodeXyLow_mirrors (op b2 b3 : Byte) :
    Option.Rel Mirrors (decodeXyLow .ix op b2 b3) (decodeXyLow .iy op b2 b3) := by
  unfold decodeXyLow
  split
  case h_19 => exact .none
  all_goals exact .some fun _ => rfl

theorem decodeXyLoad_mirrors (op b2 : Byte) :
    Option.Rel Mirrors (decodeXyLoad .ix op b2) (decodeXyLoad .iy op b2) := by
  unfold decodeXyLoad
  split
  case h_1 | h_2 | h_3 | h_4 => exact .some fun _ => rfl
  case h_11 => exact .none
  all_goals exact mirrors_map (fun _ _ => rfl) _

theorem decodeXyAlu_mirrors (op b2 : Byte) :
    Option.Rel Mirrors (decodeXyAlu .ix op b2) (decodeXyAlu .iy op b2) := by
  unfold decodeXyAlu
  split
  case h_25 => exact .none
  all_goals exact .some fun _ => rfl

theorem decodeXyCbShift_mirrors (d op : Byte) : Mirrors (decodeXyCbShift .ix d op) (decodeXyCbShift .iy d op) := by
  unfold decodeXyCbShift
  split <;> split <;> exact fun _ => rfl

theorem decodeXyCb_mirrors (d op : Byte) : Mirrors (decodeXyCb .ix d op) (decodeXyCb .iy d op) := by
  unfold decodeXyCb
  split
  · exact decodeXyCbShift_mirrors d op
  · exact fun _ => rfl
  · split <;> exact fun _ => rfl
  · split <;> exact fun _ => rfl

theorem decodeXyHigh_mirrors (op b2 b3 : Byte) :
    Option.Rel Mirrors (decodeXyHigh .ix op b2 b3) (decodeXyHigh .iy op b2 b3) := by
  unfold decodeXyHigh
  split
  case h_6 => exact .some (decodeXyCb_mirrors b2 b3)
  case h_7 => exact .none
  all_goals exact .some fun _ => rfl

/-- The two planes recognise the same second bytes. -/
theorem decodeXy_mirrors (op b2 b3 : Byte) : Option.Rel Mirrors (decodeXy .ix op b2 b3) (decodeXy .iy op b2 b3) := by
  unfold decodeXy
  split
  · exact decodeXyLow_mirrors op b2 b3
  · exact decodeXyLoad_mirrors op b2
  · exact decodeXyAlu_mirrors op b2
  · exact decodeXyHigh_mirrors op b2 b3

/-- Settles O5: a second byte has a row in both planes, of which the two instructions mirror each other, or in neither, and then the first
byte is an instruction of its own that does the same in both. -/
theorem fdIsDdWithIndexExchanged : Obligations.FdIsDdWithIndexExchanged := by
  intro b1 b2 b3
  have hdd : decodeBytes 0xDD b1 b2 b3 = (decodeXy .ix b1 b2 b3).getD .loneDd := decodeBytes_prefixByte .ix b1 b2 b3
  have hfd : decodeBytes 0xFD b1 b2 b3 = (decodeXy .iy b1 b2 b3).getD .loneFd := decodeBytes_prefixByte .iy b1 b2 b3
  have hrow := decodeXy_mirrors b1 b2 b3
  rw [hdd, hfd]
  generalize decodeXy .ix b1 b2 b3 = dd, decodeXy .iy b1 b2 b3 = fd at hrow ⊢
  cases hrow with
  | none => exact fun _ => rfl
  | some h => exact h

end Sys2Proof.Machine
end

section
/-! Input, output and CPU control (47_io_system.md R390 to R406; 40_fetch_decode.md R135, R136): the frame of each operation on a port and
of each write of a special register, then the instructions, which do one of these and retire. -/

namespace Sys2Proof.Machine

/-! ### Ports (20_memory.md R63) -/

/-- A port takes the host's next answer, like a read in a device region. -/
theorem changed_ioRead (s : State) (port : Word) : Changed [] [.ioRead port (s.ioAnswer port)] s (s.ioRead port).2 := by
  refine ⟨fun x _ => by cases x <;> rfl, ⟨rfl, rfl, rfl, rfl⟩, rfl, ?peek, List.drop_one.symm⟩
  intro a ha
  rw [peek_of_mem_eq (s := s) (by rfl) (by rfl) ha]
  simp [wrote]

theorem changed_ioWrite (s : State) (port : Word) (v : Byte) : Changed [] [.ioWrite port v] s (s.ioWrite port v) := by
  refine ⟨fun x _ => by cases x <;> rfl, ⟨rfl, rfl, rfl, rfl⟩, rfl, ?peek, rfl⟩
  intro a ha
  rw [peek_of_mem_eq (ioWrite_mem s port v) rfl ha]
  simp [wrote]

theorem completes_ioWrite {i : Instr} {port len : Word} {v : Byte} {s : State} (hexec : exec i s = retire len (s.ioWrite port v)) :
    Completes i s [.pc] [.ioWrite port v] fun t => t.pc = s.pc + len :=
  (changed_ioWrite s port v).completes hexec rfl rfl

theorem reg_setReg_setFlags (s : State) (r : Reg8) (v : Byte) (g : Flags) : ((s.setReg r v).setFlags g).reg r = v := by
  cases r <;> rfl

/-- Settles O52: one operation on the port, then the register and the flags. -/
theorem inputAndOutput : Obligations.InputAndOutput := by
  intro s r n port v inputFlags
  have hin := changed_ioRead s s.main.bc
  have hflags (t : State) (hg : t.flags = inFlags v s.flags) (hpc : t.pc = s.pc + 2) : inputFlags t := by
    obtain ⟨hszyx, hh, hp, hn⟩ := inFlags_spec v s.flags
    rw [← hg] at hszyx hh hp hn
    exact ⟨hszyx, hh, hp, hn, hpc⟩
  refine ⟨?inAIndN, completes_ioWrite rfl, ?inRIndC, ?inIndC, completes_ioWrite rfl, completes_ioWrite rfl⟩
  case inAIndN =>
    exact ((changed_ioRead s port).trans_slots (changed_setReg _ .a (s.ioAnswer port))).completes rfl rfl ⟨rfl, rfl⟩
  case inRIndC =>
    have hreg := changed_setReg (s.ioRead s.main.bc).2 r v
    have hset := changed_setFlagsButC (s := (s.ioRead s.main.bc).2.setReg r v) (g := inFlags v s.flags) (by rw [flags_setReg]; rfl)
    refine ((hin.trans_slots (hreg.trans_slots hset)).completes rfl rfl ⟨?_, hflags _ ?_ rfl⟩).mono (by simp)
    · exact reg_setReg_setFlags _ r v _
    · simp
  case inIndC =>
    have hset : Changed flagsButC [] (s.ioRead s.main.bc).2 ((s.ioRead s.main.bc).2.setFlags (inFlags v s.flags)) :=
      changed_setFlagsButC rfl
    exact ((hin.trans_slots hset).completes rfl rfl (hflags _ (by simp) rfl)).mono (by simp)

/-! ### Special registers -/

/-- The slots of the special registers and of the shadow bank: what `withSpecial` writes. -/
def specialSlots : List Slot :=
  [.i, .r, .iff1, .iff2, .im, .halted, .pendingDi, .pendingEi, .sA, .sF, .sB, .sC, .sD, .sE, .sH, .sL]

/-- A write of special registers changes those slots that do not come to hold what they held. -/
theorem changed_withSpecial {ws : List Slot} {s u : State} (hkept : ∀ x ∈ specialSlots, x ∉ ws → u.slot x = s.slot x) :
    Changed ws [] s (withSpecial u s) := by
  refine changed_of_sameSlots ?_ ⟨rfl, rfl, rfl, rfl⟩ rfl rfl rfl
  intro x hx
  cases x with
  | i | r | iff1 | iff2 | im | halted | pendingDi | pendingEi | sA | sF | sB | sC | sD | sE | sH | sL =>
    exact hkept _ (by decide) hx
  | _ => rfl

/-- An instruction that writes one special register, then retires. -/
theorem completes_withSpecial {i : Instr} {x : Slot} {len : Word} {s u : State} {post : State → Prop}
    (hexec : exec i s = retire len (withSpecial u s)) (hkept : ∀ y ∈ specialSlots, y ∉ [x] → u.slot y = s.slot y)
    (hpost : post ((withSpecial u s).setPc (s.pc + len))) : Completes i s [x, .pc] [] post :=
  (changed_withSpecial hkept).completes hexec rfl hpost

theorem specialFlags_spec (v : Byte) (iff2 : Bool) (g : Flags) : let q := specialFlags v iff2 g
    SzyxFrom v q ∧ q.h = false ∧ q.n = false ∧ q.p = iff2 :=
  ⟨szyxFrom_spec v g, rfl, rfl, rfl⟩

/-- `LD A,I` and `LD A,R` (47_io_system.md R400, R401; D18). -/
theorem completes_loadASpecial {i : Instr} {v : Byte} {len : Word} {s : State} (hexec : exec i s = retire len (loadASpecial v s)) :
    Completes i s (.a :: .pc :: flagsButC) [] fun t =>
      t.main.a = v ∧ SzyxFrom t.main.a t.flags ∧ t.flags.h = false ∧ t.flags.n = false ∧ t.flags.p = s.iff2 ∧
        t.pc = s.pc + len := by
  have hkept : ∀ x ∈ allFlags, x ∉ flagsButC → (s.setAF (v, specialFlags v s.iff2 s.flags)).slot x = s.slot x := by
    simp [allFlags, flagsButC, State.slot, specialFlags, szyxFrom]
  refine (completes_setAF hexec hkept).imp ?_
  rintro t ⟨ha, hg, hpc⟩
  obtain ⟨hszyx, hh, hn, hp⟩ := specialFlags_spec v s.iff2 s.flags
  rw [ha, hg]
  exact ⟨rfl, hszyx, hh, hn, hp, hpc⟩

/-- Settles O53: each instruction retires, after one write of a special register, a load of `A` from one, or nothing. -/
theorem cpuControl : Obligations.CpuControl := by
  intro s y b1 flags
  refine ⟨completes_loadASpecial rfl, completes_loadASpecial rfl, completes_retire rfl, ?halt, ?di, ?ei, ?im0, ?im1, ?im2, ?ldIA,
    ?ldRefreshA, ?edNops, ?lonePrefixes⟩
  case halt => exact completes_withSpecial (u := s.setHalted) rfl (by simp [specialSlots, State.slot]) ⟨rfl, rfl⟩
  case di => exact completes_withSpecial (u := s.setPendingDi) rfl (by simp [specialSlots, State.slot]) ⟨rfl, rfl⟩
  case ei => exact completes_withSpecial (u := s.setPendingEi) rfl (by simp [specialSlots, State.slot]) ⟨rfl, rfl⟩
  case im0 => exact completes_withSpecial (u := s.setIm .im0) rfl (by simp [specialSlots, State.slot]) ⟨rfl, rfl⟩
  case im1 => exact completes_withSpecial (u := s.setIm .im1) rfl (by simp [specialSlots, State.slot]) ⟨rfl, rfl⟩
  case im2 => exact completes_withSpecial (u := s.setIm .im2) rfl (by simp [specialSlots, State.slot]) ⟨rfl, rfl⟩
  case ldIA => exact completes_withSpecial (u := s.setI s.main.a) rfl (by simp [specialSlots, State.slot]) ⟨rfl, rfl⟩
  case ldRefreshA => exact completes_withSpecial (u := s.setR s.main.a) rfl (by simp [specialSlots, State.slot]) ⟨rfl, rfl⟩
  case edNops =>
    simp only [List.forall_mem_cons]
    exact ⟨completes_retire rfl, completes_retire rfl, completes_retire rfl, completes_retire rfl, completes_retire rfl,
      completes_retire rfl, List.forall_mem_nil _⟩
  case lonePrefixes =>
    simp only [List.forall_mem_cons]
    exact ⟨completes_retire rfl, completes_retire rfl, List.forall_mem_nil _⟩

end Sys2Proof.Machine
end

section
/-! The loads of the index registers and of their halves (49_index.md R463 to R466, R480 to R482, R499 to R505): what a write of an index
register or of a half completes with; the loads by `(XY+d)` are those of 41_load8.md at another address. -/

namespace Sys2Proof.Machine

/-! ### Index registers -/

theorem completes_loadIndex {i : Instr} {x : Index} {a len : Word} {s : State}
    (hexec : exec i s = retire len ((s.memRead16 a).2.setIdx x (s.word a))) :
    Completes i s (indexSlots x ++ [.pc]) (read16Ops s a) fun t => t.idx x = s.word a ∧ t.pc = s.pc + len :=
  ((changed_memRead16 s a).trans_slots (changed_setIdx _ x _)).completes hexec (setIdx_pc _ x _) (by simp)

/-- Settles O58: each load writes an index register or `SP`, loads a register at the effective address, or stores a byte there. -/
theorem indexLoads : Obligations.IndexLoads := by
  intro s r n d nn ea
  have hix : s.indexed .ix d = ea s.ix := indexed_eq s .ix d
  have hiy : s.indexed .iy d = ea s.iy := indexed_eq s .iy d
  refine ⟨completes_setIdx (x := .ix) rfl, completes_setIdx (x := .iy) rfl, completes_loadIndex (x := .ix) rfl,
    completes_loadIndex (x := .iy) rfl, ?ldSpIx, ?ldSpIy, hix ▸ completes_loadReg rfl, hiy ▸ completes_loadReg rfl,
    fun hwf => ?stores⟩
  case ldSpIx | ldSpIy => exact (completes_setPair (p := .sp) rfl).mono (by simp [pairSlots])
  case stores =>
    exact ⟨completes_memWrite16 hwf rfl, completes_memWrite16 hwf rfl, hix ▸ completes_memWrite hwf rfl,
      hiy ▸ completes_memWrite hwf rfl, hix ▸ completes_memWrite hwf rfl, hiy ▸ completes_memWrite hwf rfl⟩

/-! ### Their halves -/

@[simp] theorem half_setPc (s : State) (v : Word) (x : Index) (h : Half) : (s.setPc v).half x h = s.half x h := by
  cases x <;> rfl

theorem completes_setHalf {i : Instr} {x : Index} {h : Half} {v : Byte} {len : Word} {s : State}
    (hexec : exec i s = retire len (s.setHalf x h v)) :
    Completes i s [halfSlot x h, .pc] [] fun t => t.half x h = v ∧ t.pc = s.pc + len :=
  (changed_setHalf s x h v).completes hexec (setHalf_pc s x h v) (by simp)

@[simp] theorem setHalf_half (s : State) (x : Index) (h : Half) : s.setHalf x h (s.half x h) = s := by
  cases x <;> cases h <;> simp [State.setHalf, State.half, State.setIdx, State.idx]

/-- A load of a half from itself only goes on. -/
theorem completes_setHalf_half {i : Instr} {x : Index} {h : Half} {len : Word} {s : State}
    (hexec : exec i s = retire len (s.setHalf x h (s.half x h))) : Completes i s [.pc] [] fun t => t.pc = s.pc + len :=
  completes_retire (by rw [hexec, setHalf_half])

/-- Settles O59: a load writes a register or one half of an index register. -/
theorem indexHalfLoads : Obligations.IndexHalfLoads := by
  intro s r n
  exact ⟨completes_setHalf (x := .ix) (h := .high) rfl, completes_setHalf (x := .ix) (h := .low) rfl,
    completes_setHalf (x := .iy) (h := .high) rfl, completes_setHalf (x := .iy) (h := .low) rfl,
    completes_setReg rfl, completes_setReg rfl, completes_setReg rfl, completes_setReg rfl,
    completes_setHalf (x := .ix) (h := .high) rfl, completes_setHalf (x := .ix) (h := .low) rfl,
    completes_setHalf (x := .iy) (h := .high) rfl, completes_setHalf (x := .iy) (h := .low) rfl,
    completes_setHalf_half (x := .ix) (h := .high) rfl, completes_setHalf_half (x := .ix) (h := .low) rfl,
    completes_setHalf_half (x := .iy) (h := .high) rfl, completes_setHalf_half (x := .iy) (h := .low) rfl,
    completes_setHalf (x := .ix) (h := .high) rfl, completes_setHalf (x := .ix) (h := .low) rfl,
    completes_setHalf (x := .iy) (h := .high) rfl, completes_setHalf (x := .iy) (h := .low) rfl⟩

end Sys2Proof.Machine
end

section
/-! The block instructions (48_block.md): the frame of each body and what it leaves in the main bank, then what one iteration completes
with, alone, repeating, or at the end of a repetition (R447). -/

namespace Sys2Proof.Machine

/-! ### How an iteration ends -/

section
variable {i : Instr} {ws : List Slot} {ops : List BusOp} {s t : State} {done : Bool} {post : State → Prop}

/-- An iteration that goes on, after the body ended in `t`; the result is in the main bank. -/
theorem Changed.completes_body (h : Changed ws ops s t) (hkeeps : KeepsControl s t) (hpost : ∀ u, u.main = t.main → post u)
    (hexec : exec i s = retire 2 t) : Completes i s (ws ++ [.pc]) ops fun u => post u ∧ u.pc = s.pc + 2 :=
  h.completes hexec hkeeps.pc ⟨hpost _ rfl, rfl⟩

/-- A repeating instruction that is done goes on. -/
theorem Changed.completes_done (h : Changed ws ops s t) (hkeeps : KeepsControl s t) (hpost : ∀ u, u.main = t.main → post u)
    (hexec : exec i s = repeatUnless done t) (hdone : done = true) :
    Completes i s (ws ++ [.pc]) ops fun u => post u ∧ u.pc = s.pc + 2 :=
  h.completes_body hkeeps hpost (hexec.trans (if_pos hdone))

/-- One that is not stays where it is. -/
theorem Changed.completes_again (h : Changed ws ops s t) (hkeeps : KeepsControl s t) (hpost : ∀ u, u.main = t.main → post u)
    (hexec : exec i s = repeatUnless done t) (hdone : ¬done = true) :
    Completes i s (ws ++ [.cyc, .pc]) ops fun u => post u ∧ u.pc = s.pc ∧ u.cyc = s.cyc + 5 := by
  have hcyc : (t.addCyc 5).cyc = s.cyc + 5 := congrArg (· + 5) hkeeps.cyc
  have hexec' := hexec.trans (if_neg hdone)
  exact ((h.trans_slots (changed_addCyc t 5)).completes_jump hexec' ⟨hpost _ rfl, hkeeps.pc, hcyc⟩).mono (by simp)

end

/-! ### Transfer -/

theorem blockLoad_flags (delta : Word) (s : State) :
    (blockLoad delta s).flags =
      blockLoadFlags s.main.a (s.peek s.main.hl) ((blockLoad delta s).main.bc != 0) s.flags :=
  unpack_pack _

/-- The slots a transfer writes: the pairs and the flags `Y H X P N`. -/
def transferSlots : List Slot := [.b, .c, .d, .e, .h, .l, .fY, .fH, .fX, .fP, .fN]

theorem changed_blockLoad (delta : Word) (s : State) (hwf : s.mem.wf = true) :
    Changed transferSlots [.memRead s.main.hl (s.peek s.main.hl), .memWrite s.main.de (s.peek s.main.hl)] s
      (blockLoad delta s) := by
  have hmove := (changed_memRead s s.main.hl).trans (changed_memWrite (s.memRead s.main.hl).2 s.main.de (s.peek s.main.hl) hwf)
  have hpairs := ((hmove.trans_slots (changed_setPair _ .de (s.main.de + delta))).trans_slots
    (changed_setPair _ .hl (s.main.hl + delta))).trans_slots (changed_setPair _ .bc (s.main.bc - 1))
  refine (hpairs.trans_slots (changed_setFlags_of_kept (ws := [.fY, .fH, .fX, .fP, .fN]) ?_)).mono (by decide)
  simp [allFlags, State.slot, State.flags, blockLoadFlags]

/-- Settles O54: the frame of the body, the pairs and flags it leaves, and the three ways an iteration can end. -/
theorem blockTransfer : Obligations.BlockTransfer := by
  intro s hwf v n moved slots ops
  have hmoved (delta : Word) (u : State) (hu : u.main = (blockLoad delta s).main) : moved delta u := by
    obtain ⟨hde, hhl, hbc, -⟩ := blockLoad_eq delta s
    have hg : u.flags = blockLoadFlags s.main.a v (u.main.bc != 0) s.flags := by
      rw [State.flags, hu]
      exact blockLoad_flags delta s
    simp only [moved, hg]
    exact ⟨hu ▸ hde, hu ▸ hhl, hu ▸ hbc, rfl, rfl, bne_iff_ne, rfl, rfl⟩
  have hchanged (delta : Word) := changed_blockLoad delta s hwf
  have hkeeps (delta : Word) := keepsControl_blockLoad delta s
  have hdone (delta : Word) := blockLoad_done_iff delta s
  refine ⟨?ldi, ?ldd, fun h => ?ldirDone, fun h => ?ldir, fun h => ?lddrDone, fun h => ?lddr⟩
  case ldi | ldd => exact ((hchanged _).completes_body (hkeeps _) (hmoved _) rfl).mono (by decide)
  case ldirDone | lddrDone => exact ((hchanged _).completes_done (hkeeps _) (hmoved _) rfl ((hdone _).mpr h)).mono (by decide)
  case ldir | lddr => exact ((hchanged _).completes_again (hkeeps _) (hmoved _) rfl (mt (hdone _).mp h)).mono (by decide)

/-! ### Search -/

theorem blockCompare_flags (delta : Word) (s : State) :
    (blockCompare delta s).flags =
      blockCompareFlags s.main.a (s.peek s.main.hl) ((blockCompare delta s).main.bc != 0) s.flags :=
  unpack_pack _

theorem changed_blockCompare (delta : Word) (s : State) :
    Changed ([.b, .c, .h, .l] ++ flagsButC) [.memRead s.main.hl (s.peek s.main.hl)] s (blockCompare delta s) := by
  have hpairs := ((changed_memRead s s.main.hl).trans_slots (changed_setPair _ .hl (s.main.hl + delta))).trans_slots
    (changed_setPair _ .bc (s.main.bc - 1))
  refine (hpairs.trans_slots (changed_setFlagsButC ?c)).mono (by decide)
  simp [State.flags, blockCompareFlags]

theorem blockCompareFlags_h (a v : Byte) (bcLeft : Bool) (g : Flags) :
    (blockCompareFlags a v bcLeft g).h = true ↔ a.toNat % 16 < v.toNat % 16 := by
  rw [blockCompareFlags, decide_eq_true_iff]
  omega

/-- Settles O56: as for the transfers, and a repetition also ends on a match. -/
theorem blockSearch : Obligations.BlockSearch := by
  intro s a v r searched slots ops
  have hsearched (delta : Word) (u : State) (hu : u.main = (blockCompare delta s).main) : searched delta u := by
    obtain ⟨hhl, hbc, -⟩ := blockCompare_eq delta s
    have hg : u.flags = blockCompareFlags a v (u.main.bc != 0) s.flags := by
      rw [State.flags, hu]
      exact blockCompare_flags delta s
    have hz : (blockCompareFlags a v (u.main.bc != 0) s.flags).z = true ↔ a = v := beq_iff_eq.trans (ofInt_sub_eq_zero_iff a v)
    simp only [searched, hg]
    exact ⟨hu ▸ hhl, hu ▸ hbc, rfl, hz, blockCompareFlags_h .., rfl, bne_iff_ne, rfl, rfl⟩
  have hchanged (delta : Word) := changed_blockCompare delta s
  have hkeeps (delta : Word) := keepsControl_blockCompare delta s
  have hdone (delta : Word) := blockCompare_done_iff delta s
  refine ⟨?cpi, ?cpd, fun h => ?cpirDone, fun hbc hav => ?cpir, fun h => ?cpdrDone, fun hbc hav => ?cpdr⟩
  case cpi | cpd => exact ((hchanged _).completes_body (hkeeps _) (hsearched _) rfl).mono (by decide)
  case cpirDone | cpdrDone =>
    exact ((hchanged _).completes_done (hkeeps _) (hsearched _) rfl ((hdone _).mpr h)).mono (by decide)
  case cpir | cpdr =>
    have hnot : ¬(s.main.bc = 1 ∨ a = v) := not_or.mpr ⟨hbc, hav⟩
    exact ((hchanged _).completes_again (hkeeps _) (hsearched _) rfl (mt (hdone _).mp hnot)).mono (by decide)

/-! ### Input and output -/

/-- The slots a block input or output writes. -/
def blockIoSlots : List Slot := [.b, .h, .l] ++ flagsButC

theorem changed_blockIoEnd (delta : Word) (s : State) : Changed blockIoSlots [] s (blockIoEnd delta s) := by
  have hregs := (changed_setReg s .b (dec8 s.main.b s.flags).1).trans_slots (changed_setPair _ .hl (s.main.hl + delta))
  exact (hregs.trans_slots (changed_setFlagsButC (g := { (dec8 s.main.b s.flags).2 with n := true }) rfl)).mono (by decide)

theorem changed_blockIn (delta : Word) (s : State) (hwf : s.mem.wf = true) :
    Changed blockIoSlots [.ioRead s.main.bc (s.ioAnswer s.main.bc), .memWrite s.main.hl (s.ioAnswer s.main.bc)] s
      (blockIn delta s) :=
  ((changed_ioRead s s.main.bc).trans (changed_memWrite _ s.main.hl (s.ioAnswer s.main.bc) hwf)).trans_slots
    (changed_blockIoEnd delta _)

theorem changed_blockOut (delta : Word) (s : State) :
    Changed blockIoSlots [.memRead s.main.hl (s.peek s.main.hl), .ioWrite s.main.bc (s.peek s.main.hl)] s (blockOut delta s) :=
  ((changed_memRead s s.main.hl).trans (changed_ioWrite _ s.main.bc (s.peek s.main.hl))).trans_slots (changed_blockIoEnd delta _)

theorem blockIoEnd_main (delta : Word) (s : State) :
    (blockIoEnd delta s).main.hl = s.main.hl + delta ∧ (blockIoEnd delta s).main.b = (dec8 s.main.b s.flags).1 ∧
      (blockIoEnd delta s).flags = (dec8 s.main.b s.flags).2 := by
  refine ⟨?_, rfl, unpack_pack _⟩
  simp [blockIoEnd, Bank.hl]

/-- The registers of an input and of an output are those of what the two share. -/
theorem blockIn_main (delta : Word) (s : State) : (blockIn delta s).main = (blockIoEnd delta s).main := rfl

theorem blockOut_main (delta : Word) (s : State) : (blockOut delta s).main = (blockIoEnd delta s).main := rfl

theorem dec8_fst (x : Byte) (g : Flags) : (dec8 x g).1 = x - 1 := by
  have hx := x.isLt
  have hone : (1 : Byte).toNat = 1 := rfl
  rw [dec8, ← BitVec.toNat_inj, BitVec.toNat_ofInt, BitVec.toNat_sub, hone]
  omega

/-- Settles O57: the two bodies end alike, so they leave the same in the main bank; a repetition ends as `ioBlockDone_iff` says. -/
theorem blockInputOutput : Obligations.BlockInputOutput := by
  intro s hwf b moved input inOps outOps slots done
  have hmoved (delta : Word) (u : State) (hu : u.main = (blockIoEnd delta s).main) : moved delta u := by
    obtain ⟨hhl, hb, hg⟩ := blockIoEnd_main delta s
    obtain ⟨hszyx, hh, hp, hn⟩ := dec8_flags s.main.b s.flags
    rw [← hb, ← hu] at hszyx
    have hu' : u.flags = (dec8 s.main.b s.flags).2 := by rw [← hg, State.flags, hu]; rfl
    simp only [moved, hu']
    exact ⟨hu ▸ hhl, (hu ▸ hb).trans (dec8_fst _ _), hszyx, hh, hp, hn⟩
  have hmovedIn (delta : Word) (u : State) (hu : u.main = (blockIn delta s).main) := hmoved delta u (hu.trans (blockIn_main delta s))
  have hmovedOut (delta : Word) (u : State) (hu : u.main = (blockOut delta s).main) :=
    hmoved delta u (hu.trans (blockOut_main delta s))
  have hin (delta : Word) := changed_blockIn delta s hwf
  have hout (delta : Word) := changed_blockOut delta s
  have hkeepsIn (delta : Word) := keepsControl_blockIn delta s
  have hkeepsOut (delta : Word) := keepsControl_blockOut delta s
  have hdoneIn (delta : Word) := blockIn_done_iff delta s
  have hdoneOut (delta : Word) := blockOut_done_iff delta s
  refine ⟨?ini, ?ind, ?outi, ?outd, fun h => ⟨?inirDone, ?indrDone, ?otirDone, ?otdrDone⟩,
    fun h => ⟨?inir, ?indr, ?otir, ?otdr⟩⟩
  case ini | ind => exact ((hin _).completes_body (hkeepsIn _) (hmovedIn _) rfl).mono (by decide)
  case outi | outd => exact ((hout _).completes_body (hkeepsOut _) (hmovedOut _) rfl).mono (by decide)
  case inirDone | indrDone => exact ((hin _).completes_done (hkeepsIn _) (hmovedIn _) rfl ((hdoneIn _).mpr h)).mono (by decide)
  case otirDone | otdrDone => exact ((hout _).completes_done (hkeepsOut _) (hmovedOut _) rfl ((hdoneOut _).mpr h)).mono (by decide)
  case inir | indr => exact ((hin _).completes_again (hkeepsIn _) (hmovedIn _) rfl (mt (hdoneIn _).mp h)).mono (by decide)
  case otir | otdr => exact ((hout _).completes_again (hkeepsOut _) (hmovedOut _) rfl (mt (hdoneOut _).mp h)).mono (by decide)

end Sys2Proof.Machine
end

section
/-! `LDIR` as often as `BC` says (48_block.md R433, R447): one byte moved, and then a block copied, is a block copied that is one byte
longer; there are `BC - 1` repetitions before the last iteration. -/

namespace Sys2Proof.Machine

/-! ### The block is copied -/

/-- From `s` to `t` the `n` bytes from `HL` on are copied to the `n` addresses from `DE` on, and no other byte changes, where the source
is no device, the destination is RAM and the two do not meet. -/
def CopiesBlock (n : Nat) (s t : State) : Prop :=
  (∀ k < n, s.isDevice (s.main.hl + BitVec.ofNat 16 k) = false ∧ s.writable (s.main.de + BitVec.ofNat 16 k) = true) →
    (∀ j < n, ∀ k < n, s.main.hl + BitVec.ofNat 16 j ≠ s.main.de + BitVec.ofNat 16 k) →
      (∀ k < n, t.peek (s.main.de + BitVec.ofNat 16 k) = s.peek (s.main.hl + BitVec.ofNat 16 k)) ∧
        ∀ a : Word, s.isDevice a = false → (∀ k < n, a ≠ s.main.de + BitVec.ofNat 16 k) → t.peek a = s.peek a

theorem copiesBlock_zero (s : State) : CopiesBlock 0 s s :=
  fun _ _ => ⟨fun k hk => absurd hk k.not_lt_zero, fun _ _ _ => rfl⟩

theorem add_one_add_ofNat (v : Word) (k : Nat) : v + 1 + BitVec.ofNat 16 k = v + BitVec.ofNat 16 (k + 1) := by
  rw [Nat.add_comm k 1, BitVec.ofNat_add, BitVec.add_assoc]
  rfl

/-- Up to 65536 addresses do not come round to the first. -/
theorem add_ofNat_succ_ne (v : Word) {k : Nat} (hk : k + 1 < 65536) : v + BitVec.ofNat 16 (k + 1) ≠ v := by
  rw [ne_eq, add_eq_left, ← BitVec.toNat_inj, BitVec.toNat_ofNat, Nat.mod_eq_of_lt hk]
  exact Nat.succ_ne_zero k

/-- One byte moved from `s` to `u`, and then `n` from `u` on: the first destination is none of the others, and no source is the first
destination. -/
theorem copiesBlock_succ {ws : List Slot} {n : Nat} {s u t : State} (hn : n < 65536)
    (hmove : Changed ws [.memRead s.main.hl (s.peek s.main.hl), .memWrite s.main.de (s.peek s.main.hl)] s u)
    (hhl : u.main.hl = s.main.hl + 1) (hde : u.main.de = s.main.de + 1) (hrest : CopiesBlock n u t) : CopiesBlock (n + 1) s t := by
  obtain ⟨-, ⟨hparams, -⟩, -, hpeek, -⟩ := hmove
  simp only [CopiesBlock, hhl, hde, add_one_add_ofNat, isDevice_of_params_eq hparams, writable_of_params_eq hparams] at hrest
  intro hmap hapart
  obtain ⟨hcopied, hkept⟩ := hrest (fun k hk => hmap (k + 1) (by omega))
    fun j hj k hk => hapart (j + 1) (by omega) (k + 1) (by omega)
  have hother (a : Word) (ha : s.isDevice a = false) (hne : a ≠ s.main.de) : u.peek a = s.peek a := by
    simp [hpeek a ha, wrote, hne.symm]
  have hzero (v : Word) : v + BitVec.ofNat 16 0 = v := BitVec.add_zero v
  have hfirst := hmap 0 n.succ_pos
  rw [hzero, hzero] at hfirst
  obtain ⟨-, hram⟩ := hfirst
  refine ⟨fun k hk => ?copied, fun a ha hout => ?kept⟩
  case copied =>
    cases k with
    | zero =>
      have hdev := isDevice_of_writable hram
      rw [hzero, hzero, hkept _ hdev fun k hk => (add_ofNat_succ_ne s.main.de (by omega)).symm, hpeek _ hdev]
      simp [hram, wrote]
    | succ k =>
      have hne := hapart (k + 1) hk 0 n.succ_pos
      rw [hzero] at hne
      rw [hcopied k (by omega), hother _ (hmap (k + 1) hk).1 hne]
  case kept =>
    have hne := hout 0 n.succ_pos
    rw [hzero] at hne
    rw [hkept a ha fun k hk => hout (k + 1) (by omega), hother a ha hne]

/-! ### As often as `BC` says -/

theorem blockCount_eq (s : State) : blockCount s = (s.main.bc - 1).toNat + 1 := by
  rw [blockCount]
  split_ifs with h
  · rw [h]
    rfl
  · have hpos : s.main.bc.toNat ≠ 0 := fun hz => h (BitVec.eq_of_toNat_eq hz)
    have hlt := s.main.bc.isLt
    have hone : (1 : Word).toNat = 1 := rfl
    rw [BitVec.toNat_sub, hone]
    omega

theorem execTimes_succ {i : Instr} {s u : State} (h : exec i s = .next u) (n : Nat) :
    execTimes i (n + 1) s = execTimes i n u := by
  rw [execTimes, h]

/-- `m` repetitions and the last iteration, of which the frame is that of one iteration. -/
theorem execTimes_ldir {m : Nat} {s : State} (hwf : s.mem.wf = true) (hm : (s.main.bc - 1).toNat = m) :
    ∃ t, execTimes .ldir (m + 1) s = .next t ∧ t.main.bc = 0 ∧ t.pc = s.pc + 2 ∧
      t.main.hl = s.main.hl + BitVec.ofNat 16 (m + 1) ∧ t.main.de = s.main.de + BitVec.ofNat 16 (m + 1) ∧
      SameSlots (.cyc :: .pc :: transferSlots) s t ∧ t.flags.p = false ∧ t.cyc = s.cyc + 5 * m ∧ CopiesBlock (m + 1) s t := by
  induction m generalizing s with
  | zero =>
    obtain ⟨-, -, hlast, -⟩ := blockTransfer s hwf
    have hbc : s.main.bc = 1 := sub_eq_zero.mp (BitVec.eq_of_toNat_eq hm)
    obtain ⟨t, hexec, hmove, ⟨hde, hhl, hbc', -, -, hp, -⟩, hpc⟩ := hlast hbc
    have hzero : t.main.bc = 0 := by rw [hbc', hbc]; rfl
    refine ⟨t, execTimes_succ hexec 0, hzero, hpc, hhl, hde, hmove.1.mono (by decide), ?_, ?_,
      copiesBlock_succ (by decide) hmove hhl hde (copiesBlock_zero t)⟩
    · simpa [hzero] using hp
    · exact hmove.1 .cyc (by decide)
  | succ m ih =>
    obtain ⟨-, -, -, hagain, -⟩ := blockTransfer s hwf
    have hbc : s.main.bc ≠ 1 := by
      intro h
      simp [h] at hm
    obtain ⟨u, hexec, hmove, ⟨hde, hhl, hbc', -⟩, hpc, hcyc⟩ := hagain hbc
    have hwfu : u.mem.wf = true := (exec_mayStoreAt .ldir s u hexec).wf hwf
    have hlt : m + 1 < 65536 := hm ▸ (s.main.bc - 1).isLt
    have hmu : (u.main.bc - 1).toNat = m := by
      have hone : (1 : Word).toNat = 1 := rfl
      rw [hbc', BitVec.toNat_sub, hm, hone]
      omega
    obtain ⟨t, hrun, hbct, hpct, hhlt, hdet, hslots, hpt, hcyct, hcopy⟩ := ih hwfu hmu
    refine ⟨t, (execTimes_succ hexec _).trans hrun, hbct, by rw [hpct, hpc], by rw [hhlt, hhl, add_one_add_ofNat],
      by rw [hdet, hde, add_one_add_ofNat], (hmove.1.trans hslots).mono (by decide), hpt, by rw [hcyct, hcyc]; omega,
      copiesBlock_succ hlt hmove hhl hde hcopy⟩

/-- Settles O55: the registers that the block leaves are those the frame of an iteration does not have. -/
theorem ldirCopiesTheBlock : Obligations.LdirCopiesTheBlock := by
  intro s hwf n
  have hn : n = (s.main.bc - 1).toNat + 1 := blockCount_eq s
  obtain ⟨t, hrun, hbc, hpc, hhl, hde, hslots, hp, hcyc, hcopy⟩ := execTimes_ldir hwf rfl
  rw [hn]
  have ha : t.main.a = s.main.a := BitVec.eq_of_toNat_eq (hslots .a (by decide))
  have hsp : t.sp = s.sp := BitVec.eq_of_toNat_eq (hslots .sp (by decide))
  have hflag : t.flags.s = s.flags.s ∧ t.flags.z = s.flags.z ∧ t.flags.c = s.flags.c :=
    ⟨toNat_bool_inj.mp (hslots .fS (by decide)), toNat_bool_inj.mp (hslots .fZ (by decide)),
      toNat_bool_inj.mp (hslots .fC (by decide))⟩
  obtain ⟨hs, hz, hc⟩ := hflag
  exact ⟨t, hrun, hbc, hpc, hhl, hde, ha, hsp, hp, hs, hz, hc, hcyc, hcopy⟩

end Sys2Proof.Machine
end

section
/-! Interrupts (60_exceptions.md): the frame of an acceptance is that of the special registers it writes, then of the push and of
the read of the vector. -/

namespace Sys2Proof.Machine

/-! ### Acceptances (R544, R545, R547, R548) -/

theorem changed_enterHandler (target : Word) (cost : Nat) (s : State) (hwf : s.mem.wf = true) :
    Changed [.sp, .pc, .cyc] (pushOps s s.pc) s (enterHandler target cost s) :=
  ((changed_push16 s s.pc hwf).trans_slots (changed_setPc _ target)).trans_slots (changed_addCyc _ cost)

/-- `s` as an NMI's acceptance leaves it before the push. -/
def nmiBegun (s : State) : State := { s with r := bumpByte s.r, halted := false, iff2 := s.iff1, iff1 := false }

theorem acceptNmi_eq_enterHandler (s : State) : acceptNmi s = enterHandler 0x0066 11 (nmiBegun s) := rfl

theorem changed_nmiBegun (s : State) : Changed [.r, .halted, .iff1, .iff2] [] s (nmiBegun s) :=
  changed_withSpecial (u := nmiBegun s) (by simp [nmiBegun, specialSlots, State.slot])

theorem changed_acceptNmi (s : State) (hwf : s.mem.wf = true) :
    Changed [.r, .halted, .iff1, .iff2, .sp, .pc, .cyc] (pushOps s s.pc) s (acceptNmi s) := by
  rw [acceptNmi_eq_enterHandler]
  exact (changed_nmiBegun s).trans (changed_enterHandler 0x0066 11 (nmiBegun s) hwf)

/-- Settles O25: the acceptance is one update of the state. -/
theorem nmiIsAlwaysAccepted : Obligations.NmiIsAlwaysAccepted := by
  intro s data hwf
  refine ⟨acceptNmi s, rfl, changed_acceptNmi s hwf, ?_⟩
  rw [acceptNmi_eq]
  exact ⟨rfl, rfl, rfl, rfl, rfl, rfl, rfl⟩

/-- Settles O28: the word that `RETN` pops is the one the acceptance pushed, and `IFF2` holds `IFF1`; of the other slots the two
write, `PC` and `SP` end as they were. -/
theorem retnUndoesAnNmi : Obligations.RetnUndoesAnNmi := by
  intro s data y hwf hhigh hlow
  have hnmi := changed_acceptNmi s hwf
  obtain ⟨-, -, ⟨u, hretn, hret, hpc, husp, hiff1⟩, -⟩ := callsAndReturns (acceptNmi s) .nz 0 0 y
  have hsp : (acceptNmi s).sp = s.sp - 2 := by rw [acceptNmi_eq]
  have hiff2 : (acceptNmi s).iff2 = s.iff1 := by rw [acceptNmi_eq]
  have hpcu : u.pc = s.pc := by
    have hstored : Stored16 (acceptNmi s) (s.sp - 2) s.pc := hnmi.stored16 (wrote16_pushOps s s.pc)
    obtain ⟨-, ⟨hparams, -⟩, -⟩ := hnmi
    have hmap := writable_of_params_eq hparams
    rw [Stored16, hmap, hmap, sub_two_add_one] at hstored
    rw [hpc, hsp, hstored hlow hhigh]
  have hspu : u.sp = s.sp := by rw [husp, hsp, BitVec.sub_add_cancel]
  have hiffu : u.iff1 = s.iff1 := hiff1.trans hiff2
  obtain ⟨hslots, -⟩ := (hnmi.trans hret).narrow (ws' := [.r, .halted, .iff2, .cyc])
    (by simp [State.slot, hpcu, hspu, hiffu])
  exact ⟨acceptNmi s, u, rfl, hretn, hpcu, hspu, hiffu, hslots⟩

theorem changed_acceptMaskable (s : State) : Changed [.r, .halted, .iff1, .iff2] [] s (acceptMaskable s) :=
  changed_withSpecial (u := acceptMaskable s) (by simp [acceptMaskable_eq, specialSlots, State.slot])

theorem irq_of_masked {s : State} (h : s.iff1 = false) (data : Byte) : irq false data s = .next s := by
  simp [irq, h]

@[simp] theorem acceptMaskable_im (s : State) : (acceptMaskable s).im = s.im := by rw [acceptMaskable_eq]

theorem irq_mode0 {s : State} (h : s.iff1 = true) (hmode : s.im = .im0) (data : Byte) :
    irq false data s = enterMode0 data (acceptMaskable s) := by
  simp [irq, h, hmode]

theorem irq_mode1 {s : State} (h : s.iff1 = true) (hmode : s.im = .im1) (data : Byte) :
    irq false data s = .next (enterMode1 (acceptMaskable s)) := by
  simp [irq, h, hmode]

theorem irq_mode2 {s : State} (h : s.iff1 = true) (hmode : s.im = .im2) (data : Byte) :
    irq false data s = .next (enterMode2 data (acceptMaskable s)) := by
  simp [irq, h, hmode]

theorem changed_enterMode2 (data : Byte) (s : State) (hwf : s.mem.wf = true) :
    Changed [.sp, .pc, .cyc] (pushOps s s.pc ++ read16Ops (s.push16 s.pc) (mkWord s.i data)) s (enterMode2 data s) := by
  have hvector := (changed_push16 s s.pc hwf).trans (changed_memRead16 (s.push16 s.pc) (mkWord s.i data))
  exact (hvector.trans_slots (changed_setPc _ ((s.push16 s.pc).word (mkWord s.i data)))).trans_slots (changed_addCyc _ 19)

theorem enterMode2_spec (data : Byte) (s : State) : let t := enterMode2 data s
    t.r = s.r ∧ t.halted = s.halted ∧ t.iff1 = s.iff1 ∧ t.iff2 = s.iff2 ∧ t.sp = s.sp - 2 ∧
      t.pc = (s.push16 s.pc).word (mkWord s.i data) ∧ t.cyc = s.cyc + 19 := by
  simp [enterMode2_eq, push16_eq]

/-- Settles O26: the acceptance writes special registers, so the push and the vector read do after it what they would do before it. -/
theorem maskableAcceptance : Obligations.MaskableAcceptance := by
  intro s data hwf u v
  refine ⟨fun hmasked => irq_of_masked hmasked data, fun haccept hmode => ?mode1, fun haccept hmode => ?mode2⟩
  case mode1 =>
    refine ⟨_, irq_mode1 haccept hmode data, (changed_acceptMaskable s).trans (changed_enterHandler 0x0038 13 _ hwf), ?_⟩
    rw [enterMode1_eq, acceptMaskable_eq]
    exact ⟨rfl, rfl, rfl, rfl, rfl, rfl, rfl⟩
  case mode2 =>
    refine ⟨_, irq_mode2 haccept hmode data, (changed_acceptMaskable s).trans (changed_enterMode2 data _ hwf), ?_⟩
    exact enterMode2_spec data (acceptMaskable s)

end Sys2Proof.Machine
end

section
/-! Mode 0 (60_exceptions.md R546): what an acceptance leaves for the injected instruction to run on; for a main-plane instruction of
one byte that is a write of special registers, `PC` and the T-states. -/

namespace Sys2Proof.Machine

theorem fetchByte_acceptMaskable (s : State) (a : Word) (k : Nat) : (acceptMaskable s).fetchByte a k = s.fetchByte a k :=
  fetchByte_of_eq (s := s) (t := acceptMaskable s) rfl rfl rfl rfl a k

theorem injectedInstr_acceptMaskable (s : State) (data : Byte) : (acceptMaskable s).injectedInstr data = s.injectedInstr data := by
  have hpc : (acceptMaskable s).pc = s.pc := rfl
  simp only [State.injectedInstr, fetchByte_acceptMaskable, hpc]

theorem injectedCost_acceptMaskable (s : State) (data : Byte) : (acceptMaskable s).injectedCost data = s.injectedCost data := by
  have hpc : (acceptMaskable s).pc = s.pc := rfl
  simp only [State.injectedCost, fetchByte_acceptMaskable, hpc, acceptMaskable_params]

/-- All of them: the increment of the acceptance is one of the injected instruction's (40_fetch_decode.md R131). -/
theorem bumpByte_iterate_opcodeCount (s : State) (data : Byte) (v : Byte) :
    bumpByte^[opcodeBytes data (s.fetchByte s.pc 0) - 1] (bumpByte v) = bumpByte^[opcodeCount (s.injectedInstr data)] v := by
  have hpos : 1 ≤ opcodeBytes data (s.fetchByte s.pc 0) := by
    rw [opcodeBytes]
    split_ifs <;> decide
  rw [← Function.iterate_succ_apply, State.injectedInstr, opcodeCount_decodeBytes, Nat.succ_eq_add_one,
    Nat.sub_add_cancel hpos]

/-- All that the acceptance does before the injected instruction runs. -/
theorem injected_acceptMaskable (s : State) (data : Byte) :
    (acceptMaskable s).injected data =
      { s with
          r := bumpByte^[opcodeCount (s.injectedInstr data)] s.r
          halted := false
          iff1 := false
          iff2 := false
          pc := s.pc - 1
          bus := (fetchOps s s.pc ((s.injectedInstr data).bytesRead - 1)).reverse ++ s.bus
          hostAnswers := answersAfterFetch s s.pc ((s.injectedInstr data).bytesRead - 1)
          cyc := s.cyc + s.injectedCost data } := by
  have hpc : (acceptMaskable s).pc = s.pc := rfl
  rw [State.injected, hpc, fetchByte_acceptMaskable, injectedInstr_acceptMaskable, injectedCost_acceptMaskable, acceptMaskable_eq]
  simp only [bumpR_eq, fetchBytes_eq, State.setPc, State.addCyc]
  congr 1
  · exact bumpByte_iterate_opcodeCount s data s.r
  · exact congrArg (List.reverse · ++ s.bus) (fetch_of_eq (by rfl) (by rfl) (by rfl) (by rfl) s.pc _).1
  · exact (fetch_of_eq (by rfl) (by rfl) (by rfl) (by rfl) s.pc _).2

theorem changed_injected_acceptMaskable (s : State) (data : Byte) :
    Changed [.pc, .r, .iff1, .iff2, .halted, .cyc] (fetchOps s s.pc ((s.injectedInstr data).bytesRead - 1)) s
      ((acceptMaskable s).injected data) := by
  have hslot : SameSlots [.pc, .r, .iff1, .iff2, .halted, .cyc] (s.fetchBytes s.pc ((s.injectedInstr data).bytesRead - 1))
      ((acceptMaskable s).injected data) := by
    rw [injected_acceptMaskable, fetchBytes_eq]
    intro x hx
    cases x with
    | pc | r | iff1 | iff2 | halted | cyc => simp at hx
    | _ => rfl
  have hrest := changed_of_sameSlots hslot (by rw [injected_acceptMaskable, fetchBytes_eq]; exact ⟨rfl, rfl, rfl, rfl⟩)
    (by rw [injected_acceptMaskable, fetchBytes_eq]) (by rw [injected_acceptMaskable, fetchBytes_eq])
    (by rw [injected_acceptMaskable, fetchBytes_eq])
  exact (changed_fetchBytes s s.pc _).trans_slots hrest

/-! ### A main-plane instruction of one byte -/

/-- The base cost of a main-plane byte counts under a parameter (D21). -/
def mode0BaseCost (s : State) (data : Byte) : Nat := if s.params.im0AddsBaseCost then Config.cycleCountsMain data else 0

/-- `s` as a mode-0 acceptance leaves it for the main-plane instruction `data` of one byte. -/
def mode0Begun (s : State) (data : Byte) : State :=
  { s with
      r := bumpByte s.r
      halted := false
      iff1 := false
      iff2 := false
      pc := s.pc - 1
      cyc := s.cyc + mode0BaseCost s data }

theorem handlerCost_of_main {b0 : Byte} (h : ¬(b0 = 0xCB ∨ b0 = 0xED ∨ b0 = 0xDD ∨ b0 = 0xFD)) (p : Config.Params)
    (b1 op : Byte) : handlerCost p b0 b1 op = none := by
  rw [handlerCost, if_neg (by tauto), if_neg (by tauto), if_neg (by tauto)]

/-- It runs there with no byte fetched. -/
theorem irq_of_mode0_main {s : State} {data : Byte} {i : Instr} (haccept : s.iff1 = true) (hmode : s.im = .im0)
    (hdata : ¬(data = 0xCB ∨ data = 0xED ∨ data = 0xDD ∨ data = 0xFD)) (hi : s.injectedInstr data = i) (hread : i.bytesRead = 1) :
    irq false data s = onNext (·.addCyc 2) (exec i (mode0Begun s data)) := by
  have hcount : opcodeCount i = 1 := by
    rw [← hi, State.injectedInstr, opcodeCount_decodeBytes, opcodeBytes, if_neg (by tauto), if_neg (by tauto)]
  have hcost : s.injectedCost data = mode0BaseCost s data := by
    rw [State.injectedCost, handlerCost_of_main hdata]
    rfl
  have hbegun : (acceptMaskable s).injected data = mode0Begun s data := by
    rw [injected_acceptMaskable, hi, hread, hcount, hcost]
    rfl
  rw [irq_mode0 haccept hmode, enterMode0_eq_onNext, injectedInstr_acceptMaskable, hi, hbegun]

theorem changed_mode0Begun (s : State) (data : Byte) :
    Changed [.r, .iff1, .iff2, .halted, .pc, .cyc] [] s (mode0Begun s data) := by
  have hmask : Changed [.r, .iff1, .iff2, .halted] [] s (withSpecial (mode0Begun s data) s) :=
    changed_withSpecial (by simp [mode0Begun, specialSlots, State.slot])
  exact (hmask.trans_slots (changed_setPc _ (s.pc - 1))).trans_slots (changed_addCyc _ (mode0BaseCost s data))

theorem decodeBytes_rst (p : Field3) (b1 b2 b3 : Byte) : decodeBytes (opXYZ 3 p 7) b1 b2 b3 = .rstP p := by
  cases p using octalCases <;> rfl

theorem opXYZ_rst_main (p : Field3) :
    ¬(opXYZ 3 p 7 = 0xCB ∨ opXYZ 3 p 7 = 0xED ∨ opXYZ 3 p 7 = 0xDD ∨ opXYZ 3 p 7 = 0xFD) := by
  revert p
  decide

/-- The address after the injected byte, were it at `PC - 1`, is the interrupted `PC`. -/
theorem mode0Begun_pc_add_one (s : State) (data : Byte) : (mode0Begun s data).pc + 1 = s.pc := BitVec.sub_add_cancel s.pc 1

/-- `RST p` pushes it, and `NOP` goes on to it. -/
theorem irq_mode0_rst {s : State} (haccept : s.iff1 = true) (hmode : s.im = .im0) (p : Field3) :
    irq false (opXYZ 3 p 7) s = .next ((((mode0Begun s (opXYZ 3 p 7)).push16 s.pc).setPc (rstTarget p)).addCyc 2) := by
  rw [irq_of_mode0_main haccept hmode (opXYZ_rst_main p) (decodeBytes_rst p _ _ _) rfl]
  change onNext _ (call 1 (rstTarget p) _) = _
  rw [call_eq, mode0Begun_pc_add_one, onNext_next]

theorem irq_mode0_nop {s : State} (haccept : s.iff1 = true) (hmode : s.im = .im0) :
    irq false 0x00 s = .next (((mode0Begun s 0x00).setPc s.pc).addCyc 2) := by
  rw [irq_of_mode0_main haccept hmode (i := .nop) (by decide) rfl rfl]
  change onNext _ (retire 1 _) = _
  rw [retire_eq, mode0Begun_pc_add_one, onNext_next]

theorem changed_mode0_rst (s : State) (p : Field3) (hwf : s.mem.wf = true) :
    Changed [.sp, .pc, .r, .iff1, .iff2, .halted, .cyc] (pushOps s s.pc) s
      ((((mode0Begun s (opXYZ 3 p 7)).push16 s.pc).setPc (rstTarget p)).addCyc 2) := by
  have hpush := (changed_mode0Begun s (opXYZ 3 p 7)).trans (changed_push16 _ s.pc hwf)
  exact ((hpush.trans_slots (changed_setPc _ (rstTarget p))).trans_slots (changed_addCyc _ 2)).mono (by decide)

/-- `PC` holds what it held. -/
theorem changed_mode0_nop (s : State) :
    Changed [.r, .iff1, .iff2, .halted, .cyc] [] s (((mode0Begun s 0x00).setPc s.pc).addCyc 2) := by
  have h := ((changed_mode0Begun s 0x00).trans_slots (changed_setPc _ s.pc)).trans_slots (changed_addCyc _ 2)
  exact h.narrow (by simp [State.slot])

/-- Settles O27: the acceptance, the fetch and the cost in one update of the state; `RST` and `NOP` on what it is for them. -/
theorem modeZeroInjectsTheInstruction : Obligations.ModeZeroInjectsTheInstruction := by
  intro s data haccept hmode b i base cost
  refine ⟨?injected, fun p hwf hp => ?rst, fun hdata => ?nop⟩
  case injected =>
    obtain ⟨v, hv, -, hcyc, -⟩ := everyInstructionCompletes i ((acceptMaskable s).injected data)
    have hirq : irq false data s = .next (v.addCyc 2) := by
      rw [irq_mode0 haccept hmode, enterMode0_eq_onNext, injectedInstr_acceptMaskable]
      exact congrArg (onNext (·.addCyc 2)) hv
    refine ⟨_, v, hirq, hv, changed_injected_acceptMaskable s data, ?pc, ?iff1, ?iff2, ?halted, ?cyc, ?rLow, ?rHigh, hcyc⟩
    all_goals rw [injected_acceptMaskable]
    case cyc => rfl
    case rLow => exact bumpByte_iterate_low _ _
    case rHigh => exact bumpByte_iterate_high _ _
  case rst =>
    subst hp
    have hstored := stored16_push16 (mode0Begun s (opXYZ 3 p 7)) s.pc hwf
    refine ⟨_, irq_mode0_rst haccept hmode p, changed_mode0_rst s p hwf, rfl, push16_sp _ s.pc, ?stored, ?rest⟩
    case stored => exact stored16_addCyc (stored16_setPc hstored)
    case rest => exact ⟨rfl, rfl, rfl, rfl, rfl⟩
  case nop =>
    subst hdata
    exact ⟨_, irq_mode0_nop haccept hmode, changed_mode0_nop s, rfl, rfl, rfl, rfl, rfl⟩

end Sys2Proof.Machine
end
